-- ==== Sys2Proof/Word.lean ====
section
/-! DEFINITION. The word types of the block and the four-byte string (00_scope.md R8 to R10). -/

namespace Sys2Proof

/-- A byte: an integer in [0, 255] (R10). -/
abbrev Byte := BitVec 8

/-- A 32-bit register value, the u32 of R9. -/
abbrev Word := BitVec 32

/-- A 64-bit register value: IBUF_LEN and OBUF_LEN (10_state.md R26, R27). -/
abbrev Dword := BitVec 64

/-- An exactly-4-byte string, byte 0 first (R8, R10): the type code of a slot or of a record. -/
structure Bytes4 where
  b0 : Byte
  b1 : Byte
  b2 : Byte
  b3 : Byte
  deriving DecidableEq, Repr

end Sys2Proof
end

