-- ==== Sys2Proof/Syntax.lean ====
section
/-! DEFINITION. The commands (30_encoding.md R85), the raw fields of a command word (R80), the host's
operations (20_memory.md R50) and the names of the error codes (60_exceptions.md R211). -/

namespace Sys2Proof

/-- The TypeCode slot operand T (30_encoding.md R82): `t0` is TC[0], `t1` is TC[1]. -/
inductive SlotIx where
  | t0
  | t1
  deriving DecidableEq, Repr

/-- The 20 commands of the opcode map (30_encoding.md R85). A command marked "uses T" carries its slot. -/
inductive Instr where
  /-- TC_FROM_BYTES, 41_typecode.md R103. -/
  | tcFromBytes (t : SlotIx)
  /-- TC_FROM_TEXT, 41_typecode.md R104. -/
  | tcFromText (t : SlotIx)
  /-- TC_BYTES, 41_typecode.md R105. -/
  | tcBytes (t : SlotIx)
  /-- TC_IS_CRITICAL, 41_typecode.md R106. -/
  | tcIsCritical (t : SlotIx)
  /-- TC_IS_PUBLIC, 41_typecode.md R107. -/
  | tcIsPublic (t : SlotIx)
  /-- TC_IS_RESERVED_BIT_VALID, 41_typecode.md R108. -/
  | tcIsReservedBitValid (t : SlotIx)
  /-- TC_IS_SAFE_TO_COPY, 41_typecode.md R109. -/
  | tcIsSafeToCopy (t : SlotIx)
  /-- TC_IS_VALID, 41_typecode.md R110. -/
  | tcIsValid (t : SlotIx)
  /-- TC_RENDER, 41_typecode.md R111. -/
  | tcRender (t : SlotIx)
  /-- TC_EQUAL, 41_typecode.md R112. -/
  | tcEqual
  /-- CHUNK_NEW, 43_chunk_record.md R160. -/
  | chunkNew (t : SlotIx)
  /-- CHUNK_LENGTH, 43_chunk_record.md R161. -/
  | chunkLength
  /-- CHUNK_TYPE, 43_chunk_record.md R162. -/
  | chunkType (t : SlotIx)
  /-- CHUNK_PAYLOAD, 43_chunk_record.md R163. -/
  | chunkPayload
  /-- CHUNK_CRC, 43_chunk_record.md R164. -/
  | chunkCrc
  /-- CHUNK_PAYLOAD_TEXT, 43_chunk_record.md R166. -/
  | chunkPayloadText
  /-- CHUNK_ENCODE, 43_chunk_record.md R168. -/
  | chunkEncode
  /-- CHUNK_DECODE, 43_chunk_record.md R170. -/
  | chunkDecode
  /-- CHUNK_RENDER, 43_chunk_record.md R171. -/
  | chunkRender
  /-- CRC_COMPUTE, 42_crc_generator.md R147. -/
  | crcCompute
  deriving DecidableEq, Repr

/-- The fields of the one command format CW, before any check (30_encoding.md R80). -/
structure CmdFields where
  /-- OPC, bits [7:0] (R81). -/
  opc : BitVec 8
  /-- T, bit [8] (R82). -/
  t : BitVec 1
  /-- RSV, bits [31:9] (R83). -/
  rsv : BitVec 23
  deriving DecidableEq, Repr

/-- The first check of 60_exceptions.md R214 that a command word fails. -/
inductive IllegalWord where
  /-- The reserved bits [31:9] are not 0 (30_encoding.md R83). -/
  | reservedBits
  /-- The opcode is not in the opcode map (30_encoding.md R86). -/
  | unassignedOpcode
  /-- T = 1 on a command that takes no slot (30_encoding.md R84). -/
  | slotNotUsed
  deriving DecidableEq, Repr

/-- The completion codes of 60_exceptions.md R211, by name. -/
inductive ErrCode where
  | ok
  | invalidTypeCode
  | invalidLength
  | tooShort
  | lengthMismatch
  | crcMismatch
  | utf8DecodeError
  | illegalCommand
  | emptyOperand
  | capacity
  deriving DecidableEq, Repr, Inhabited

/-- The reasons of the fault log: the faults of 00_scope.md R13, recorded and never final (10_state.md R38). -/
inductive UsageFault where
  /-- IllegalCommand, code 0x80. -/
  | illegalCommand
  /-- EmptyOperand, code 0x81. -/
  | emptyOperand
  /-- Capacity, code 0x82. -/
  | capacity
  /-- A command read an IBUF byte that the host has not written since reset (10_state.md R37). -/
  | unwrittenIbuf
  /-- The host read OBUF at or beyond OBUF_LEN (20_memory.md R56). -/
  | obufBeyondLen
  deriving DecidableEq, Repr

/-- The width of a host register access (20_memory.md R52). -/
inductive AccessWidth where
  | w32
  | w64
  /-- Any other number of bits: a partial or a wider access. -/
  | other (bits : Nat)
  deriving DecidableEq, Repr

/-- The data of a host register write, at its width (20_memory.md R50, R52). -/
inductive AccessData where
  | w32 (v : Word)
  | w64 (v : Dword)
  /-- Data of any other number of bits: a partial or a wider access. -/
  | other (bits : Nat) (v : Nat)
  deriving DecidableEq, Repr

/-- The operations by which the host acts on the block, and no others (20_memory.md R50). -/
inductive HostOp where
  /-- HostWriteReg(off, v). -/
  | writeReg (off : Nat) (v : AccessData)
  /-- HostReadReg(off), at the given width. -/
  | readReg (off : Nat) (width : AccessWidth)
  /-- HostWriteIBUF(a, b). -/
  | writeIbuf (a : Nat) (b : Byte)
  /-- HostReadOBUF(a). -/
  | readObuf (a : Nat)
  /-- Reset(). -/
  | reset
  deriving DecidableEq, Repr

/-- What a host read returns (20_memory.md R50). -/
inductive Reply where
  | word (v : Word)
  | dword (v : Dword)
  | byte (v : Byte)
  deriving DecidableEq, Repr

end Sys2Proof
end

