-- ==== Sys2Proof/WellFormed.lean ====
section
/-! DEFINITION. When the fields of a command word are legal (30_encoding.md R83, R84, R86, R87). Every term of
`Instr` is a legal command: its only operand is a slot, and both slots exist. -/

namespace Sys2Proof

/-- The reserved bits [31:9] are 0 (R83). -/
def CmdFields.reservedOk (f : CmdFields) : Bool := f.rsv == 0

/-- The opcodes that rule R86 lists as illegal: 0x00, 0x0B to 0x0F, 0x19 to 0x1F and 0x21 to 0xFF. -/
def CmdFields.opcodeOk (f : CmdFields) : Bool :=
  !(f.opc == 0x00#8 || (0x0B#8 ≤ f.opc && f.opc ≤ 0x0F#8) || (0x19#8 ≤ f.opc && f.opc ≤ 0x1F#8) || 0x21#8 ≤ f.opc)

/-- The opcodes marked "uses T" in the opcode map (R85). -/
def opcodesUsingT : List Byte :=
  [0x01#8, 0x02#8, 0x03#8, 0x04#8, 0x05#8, 0x06#8, 0x07#8, 0x08#8, 0x09#8, 0x10#8, 0x12#8]

/-- T = 1 only on a command that uses T (R84). -/
def CmdFields.slotOk (f : CmdFields) : Bool := f.t == 0 || opcodesUsingT.contains f.opc

/-- A legal command word: one of the 31 of rule R87. -/
def CmdFields.wellFormed (f : CmdFields) : Bool := f.reservedOk && f.opcodeOk && f.slotOk

end Sys2Proof
end

