-- ==== Sys2Proof/Decode.lean ====
section
/-! DEFINITION. Decoding a 32-bit command word (30_encoding.md R80 to R87), and the encoder. A command is one
32-bit word captured from the CMD write (20_memory.md R53): there are no instruction bytes to fetch (R68). -/

namespace Sys2Proof

/-- The fields of the word w: OPC = w[7:0], T = w[8], RSV = w[31:9] (30_encoding.md R80). -/
def fieldsOf (w : Word) : CmdFields :=
  { opc := w.extractLsb' 0 8, t := w.extractLsb' 8 1, rsv := w.extractLsb' 9 23 }

/-- The word with the given fields (30_encoding.md R80). -/
def CmdFields.word (f : CmdFields) : Word := f.rsv ++ f.t ++ f.opc

/-- The slot that T selects: 0 selects TC[0], 1 selects TC[1] (30_encoding.md R82). -/
def slotOfT (t : BitVec 1) : SlotIx := if t = 1#1 then .t1 else .t0

/-- The value of T that selects the slot (30_encoding.md R82). -/
def tOfSlot : SlotIx → BitVec 1
  | .t0 => 0#1
  | .t1 => 1#1

/-- A row of the opcode map (30_encoding.md R85). -/
structure OpcodeRow where
  opc : Byte
  usesT : Bool
  build : SlotIx → Instr

/-- The opcode map (30_encoding.md R85). -/
def opcodeMap : List OpcodeRow := [
  ⟨0x01#8, true, .tcFromBytes⟩,
  ⟨0x02#8, true, .tcFromText⟩,
  ⟨0x03#8, true, .tcBytes⟩,
  ⟨0x04#8, true, .tcIsCritical⟩,
  ⟨0x05#8, true, .tcIsPublic⟩,
  ⟨0x06#8, true, .tcIsReservedBitValid⟩,
  ⟨0x07#8, true, .tcIsSafeToCopy⟩,
  ⟨0x08#8, true, .tcIsValid⟩,
  ⟨0x09#8, true, .tcRender⟩,
  ⟨0x0A#8, false, fun _ => .tcEqual⟩,
  ⟨0x10#8, true, .chunkNew⟩,
  ⟨0x11#8, false, fun _ => .chunkLength⟩,
  ⟨0x12#8, true, .chunkType⟩,
  ⟨0x13#8, false, fun _ => .chunkPayload⟩,
  ⟨0x14#8, false, fun _ => .chunkCrc⟩,
  ⟨0x15#8, false, fun _ => .chunkPayloadText⟩,
  ⟨0x16#8, false, fun _ => .chunkEncode⟩,
  ⟨0x17#8, false, fun _ => .chunkDecode⟩,
  ⟨0x18#8, false, fun _ => .chunkRender⟩,
  ⟨0x20#8, false, fun _ => .crcCompute⟩]

/-- The first row of a map with the opcode. -/
def findOpcode (opc : Byte) : List OpcodeRow → Option OpcodeRow
  | [] => none
  | r :: rs => if r.opc = opc then some r else findOpcode opc rs

/-- Decoding, with the checks in the order of 60_exceptions.md R214: reserved bits, opcode, T. -/
def decode (w : Word) : Except IllegalWord Instr :=
  let f := fieldsOf w
  if f.rsv = 0 then
    match findOpcode f.opc opcodeMap with
    | none => .error .unassignedOpcode
    | some r => if r.usesT = false ∧ f.t = 1#1 then .error .slotNotUsed else .ok (r.build (slotOfT f.t))
  else .error .reservedBits

/-- The opcode and the T bit of a command (30_encoding.md R85). -/
def Instr.fields : Instr → CmdFields
  | .tcFromBytes t => ⟨0x01#8, tOfSlot t, 0⟩
  | .tcFromText t => ⟨0x02#8, tOfSlot t, 0⟩
  | .tcBytes t => ⟨0x03#8, tOfSlot t, 0⟩
  | .tcIsCritical t => ⟨0x04#8, tOfSlot t, 0⟩
  | .tcIsPublic t => ⟨0x05#8, tOfSlot t, 0⟩
  | .tcIsReservedBitValid t => ⟨0x06#8, tOfSlot t, 0⟩
  | .tcIsSafeToCopy t => ⟨0x07#8, tOfSlot t, 0⟩
  | .tcIsValid t => ⟨0x08#8, tOfSlot t, 0⟩
  | .tcRender t => ⟨0x09#8, tOfSlot t, 0⟩
  | .tcEqual => ⟨0x0A#8, 0#1, 0⟩
  | .chunkNew t => ⟨0x10#8, tOfSlot t, 0⟩
  | .chunkLength => ⟨0x11#8, 0#1, 0⟩
  | .chunkType t => ⟨0x12#8, tOfSlot t, 0⟩
  | .chunkPayload => ⟨0x13#8, 0#1, 0⟩
  | .chunkCrc => ⟨0x14#8, 0#1, 0⟩
  | .chunkPayloadText => ⟨0x15#8, 0#1, 0⟩
  | .chunkEncode => ⟨0x16#8, 0#1, 0⟩
  | .chunkDecode => ⟨0x17#8, 0#1, 0⟩
  | .chunkRender => ⟨0x18#8, 0#1, 0⟩
  | .crcCompute => ⟨0x20#8, 0#1, 0⟩

/-- The command word of a command: opc | (t << 8) (30_encoding.md R92). -/
def encode (i : Instr) : Word := i.fields.word

/-- The host's entry: the command of the word whose low `nbits` bits are those of w. A command has no bits above
32 (30_encoding.md R80). -/
def decodeTableWord (nbits w : Nat) : Option Instr :=
  if nbits ≤ 32 then
    match decode (BitVec.ofNat 32 (w % 2 ^ nbits)) with
    | .ok i => some i
    | .error _ => none
  else none

end Sys2Proof
end

