-- ==== Sys2Proof/Config.lean ====
section
/-! DEFINITION. What an implementation fixes (00_scope.md R7), and the free values. The free values are constants
without a body, so nothing can be proved of which value they are. -/

namespace Sys2Proof

/-- The unit in which TC_FROM_TEXT counts the length of its text: P_TEXT_LEN_UNIT (00_scope.md R7, 92_eei_decisions.md D16). -/
inductive TextUnit where
  /-- Unicode scalar values. -/
  | chars
  /-- UTF-8 code units. -/
  | bytes
  deriving DecidableEq, Repr

/-- The parameters of 00_scope.md R7 that are plain data. A state carries them, and no step changes them (DESIGN CHOICE, log 1). -/
structure Config.Params where
  /-- P_PAYLOAD_CAP: the largest payload, in bytes. -/
  payloadCap : Nat
  /-- P_OBUF_CAP: the capacity of OBUF, in bytes. -/
  obufCap : Nat
  /-- P_TEXT_LEN_UNIT. -/
  textUnit : TextUnit
  /-- P_BASE: where the platform places the block (20_memory.md R64). No rule reads it (log 25). -/
  base : Nat
  deriving DecidableEq, Repr

/-- P_IBUF_CAP = P_PAYLOAD_CAP + 12 (00_scope.md R7). -/
def Config.Params.ibufCap (p : Config.Params) : Nat := p.payloadCap + 12

/-- The constraints of 00_scope.md R7. That OBUF_LEN, 64 bits, can hold P_OBUF_CAP is DEDUCED from 10_state.md R21 (log 4). -/
abbrev Config.Params.wf (p : Config.Params) : Prop :=
  p.payloadCap ≤ 2 ^ 32 - 1 ∧ p.payloadCap + 12 ≤ p.obufCap ∧ p.obufCap < 2 ^ 64

/-- The full-range implementation of 00_scope.md R7. The text unit CHARS is the literal reading of the source's "characters"
(DESIGN CHOICE, log 2). -/
def Config.fullRange : Config.Params :=
  { payloadCap := 2 ^ 32 - 1, obufCap := 2 ^ 32 + 11, textUnit := .chars, base := 0 }

/-- P_RENDER: the bytes of CHUNK_RENDER's text, an uninterpreted function of REC (00_scope.md R7, 43_chunk_record.md R171) (log 3). -/
opaque Config.render (len : Word) (type : Bytes4) (payload : List Byte) (crc : Word) : List Byte

/-- The stale or power-on byte that a command reads from an IBUF address nothing has written since reset (10_state.md R37) (log 8). -/
opaque Config.unwrittenByte (draw addr : Nat) : Byte

/-- The unspecified byte that the host reads from OBUF at or beyond OBUF_LEN (20_memory.md R56) (log 9). `draw` does not
change between commands and resets, so that reads are idempotent (R63). -/
opaque Config.staleByte (draw addr : Nat) : Byte

/-- The unspecified completion code of TC_FROM_TEXT on ill-formed UTF-8 (92_eei_decisions.md D15, 93_implementation_defined.md) (log 10). -/
opaque Config.unspecifiedErr (draw : Nat) : ErrCode

/-- The partly old and partly new value that the host reads from RES while BUSY = 1 (70_reset_and_hazards.md R244) (log 11). -/
opaque Config.busyRes (draw : Nat) : Word

/-- The same for OBUF_LEN (70_reset_and_hazards.md R244) (log 11). -/
opaque Config.busyObufLen (draw : Nat) : Dword

/-- The same for an OBUF byte (70_reset_and_hazards.md R244) (log 11). -/
opaque Config.busyByte (draw addr : Nat) : Byte

end Sys2Proof
end

