-- ==== Sys2Proof/Machine/State.lean ====
section
/-! DEFINITION. The architectural state of one block (10_state.md R21 to R40), the host agent's side of it, and
the reasons a step can stop. -/

namespace Sys2Proof.Machine

/-- A byte-addressed buffer: the bytes written since reset, addresses strictly rising. An address it does not list
holds no value (10_state.md R37, R40) (log 15). -/
abbrev Memory := List Host.Cell

/-- The canonical form: addresses strictly rising. -/
abbrev Memory.wf (m : Memory) : Prop := m.Pairwise (fun x y => x.1 < y.1)

/-- A TypeCode slot TC[t] (10_state.md R28). -/
structure TcSlot where
  present : Bool
  bytes : Bytes4
  deriving DecidableEq, Repr

/-- The record register REC (10_state.md R30). -/
structure Record where
  present : Bool
  len : Word
  type : Bytes4
  payload : List Byte
  crc : Word
  deriving DecidableEq, Repr

/-- The state of the block and of its host. -/
structure State where
  /-- The parameters of 00_scope.md R7: configuration, changed by no step (log 1). -/
  cfg : Config.Params
  /-- CMD, and the engine's command latch (10_state.md R22, 20_memory.md R53). -/
  cmd : Word
  /-- STATUS.ERR, bits [7:0] of STATUS (10_state.md R23). -/
  err : Byte
  /-- STATUS.BUSY, bit [8] of STATUS (10_state.md R23). -/
  busy : Bool
  /-- ARG (10_state.md R24). -/
  arg : Word
  /-- RES (10_state.md R25). -/
  res : Word
  /-- IBUF_LEN (10_state.md R26). -/
  ibufLen : Dword
  /-- OBUF_LEN (10_state.md R27). -/
  obufLen : Dword
  /-- IBUF, and W_IBUF: the addresses it lists are those the host has written since reset (10_state.md R21, R37). -/
  ibuf : Memory
  /-- OBUF (10_state.md R21). -/
  obuf : Memory
  /-- TC[0] (10_state.md R28). -/
  tc0 : TcSlot
  /-- TC[1] (10_state.md R28). -/
  tc1 : TcSlot
  /-- REC (10_state.md R30). -/
  record : Record
  /-- CRC_ACC, the hidden CRC accumulator (10_state.md R39, 42_crc_generator.md R149). -/
  crcAcc : Word
  /-- The hidden step index of the running command (10_state.md R39). A command is one transition, so no step shows it
  standing inside one (log 17). -/
  stepIndex : Nat
  /-- The fault log, newest entry last (10_state.md R38). -/
  faultLog : List (Word × UsageFault)
  /-- The refused mark (10_state.md R38). -/
  refusedMark : Bool
  /-- The model's own: the host's actions still to come, next one first (log 5). -/
  hostQ : List HostOp
  /-- The model's own: what the host's reads returned, newest last (log 5). -/
  replies : List Reply
  /-- The model's own: how often the free values have been renewed: by each command, each reset, and each read of result
  state while BUSY = 1 (log 13). -/
  draws : Nat
  deriving DecidableEq, Repr

/-- The reasons a step stops with a fault. Both are safe: the spec gives the access no meaning, and the bounds of
10_state.md R21 exclude it, so no state that keeps them raises one (log 18). (The faults of 00_scope.md R13 are
entries of the fault log, not stops.) -/
inductive Fault where
  /-- Raised by a command that reads IBUF at or beyond P_IBUF_CAP, where no byte exists. Safe. -/
  | ibufAddress
  /-- Raised by a command that writes OBUF at or beyond P_OBUF_CAP, where no byte exists. Safe. -/
  | obufAddress
  deriving DecidableEq, Repr

/-- The reasons a step is refused: host actions to which the spec gives no effect at all (00_scope.md R13). Each but
`notModelled` carries the state before the action with the action consumed and the refused mark set (10_state.md R38).
All are safe: the model stops where the hardware goes on (log 12). -/
inductive Refusal where
  /-- Raised by `exec` for a command that has no meaning yet. Safe. No arm raises it now. -/
  | notModelled (mnemonic : String)
  /-- Raised by a host write of CMD, ARG, IBUF_LEN or IBUF while BUSY = 1 (70_reset_and_hazards.md R243). Safe. -/
  | writeWhileBusy (marked : State)
  /-- Raised by a partial, wider or misaligned register access, and by one outside REG space (20_memory.md R52). Safe. -/
  | registerAccess (marked : State)
  /-- Raised by a host write of IBUF_LEN above P_IBUF_CAP (20_memory.md R54). Safe. -/
  | ibufLenTooLarge (marked : State)
  /-- Raised by a host write of IBUF at or beyond P_IBUF_CAP (20_memory.md R55). Safe. -/
  | ibufAddress (marked : State)
  /-- Raised by a host read of OBUF at or beyond P_OBUF_CAP (20_memory.md R56). Safe. -/
  | obufAddress (marked : State)
  deriving DecidableEq, Repr

/-- A slot that holds no value. Its bytes are unspecified (10_state.md R40); 00 00 00 00 is a DESIGN CHOICE (log 14). -/
def TcSlot.empty : TcSlot := { present := false, bytes := ⟨0#8, 0#8, 0#8, 0#8⟩ }

/-- A record register that holds no value. Its fields are unspecified (10_state.md R40); zeros and the empty payload are
a DESIGN CHOICE (log 14). -/
def Record.empty : Record :=
  { present := false, len := 0#32, type := ⟨0#8, 0#8, 0#8, 0#8⟩, payload := [], crc := 0#32 }

/-- The block with the parameters p right after reset (10_state.md R40, 70_reset_and_hazards.md R240), with no host
action pending. CRC_ACC and the step index are DESIGN CHOICES (log 14). -/
def State.resetWith (p : Config.Params) : State :=
  { cfg := p, cmd := 0x00000000#32, err := 0x00#8, busy := false, arg := 0x00000000#32, res := 0x00000000#32,
    ibufLen := 0#64, obufLen := 0#64, ibuf := [], obuf := [], tc0 := TcSlot.empty, tc1 := TcSlot.empty,
    record := Record.empty, crcAcc := 0#32, stepIndex := 0, faultLog := [], refusedMark := false,
    hostQ := [], replies := [], draws := 0 }

/-- The full-range block right after reset (log 1, log 2). -/
def State.reset : State := State.resetWith Config.fullRange

end Sys2Proof.Machine
end

