-- ==== Sys2Proof/Machine/Flags.lean ====
section
/-! DEFINITION. The stored status (10_state.md R23, R33), the numeric completion codes (60_exceptions.md R211), and
the computed flags of a type code (41_typecode.md R100, R101), which no register stores. -/

namespace Sys2Proof.Machine

/-- The value of STATUS.ERR for a completion code (60_exceptions.md R211). -/
def errByte : ErrCode → Byte
  | .ok => 0x00#8
  | .invalidTypeCode => 0x01#8
  | .invalidLength => 0x02#8
  | .tooShort => 0x03#8
  | .lengthMismatch => 0x04#8
  | .crcMismatch => 0x05#8
  | .utf8DecodeError => 0x06#8
  | .illegalCommand => 0x80#8
  | .emptyOperand => 0x81#8
  | .capacity => 0x82#8

/-- The 32 bits of STATUS: ERR in [7:0], BUSY in [8], and [31:9] reserved, read as 0 (10_state.md R23). -/
def statusWord (s : State) : Word := 0#23 ++ BitVec.ofBool s.busy ++ s.err

/-- upper(b): 'A' to 'Z' (00_scope.md R12). -/
def upper (b : Byte) : Bool := 0x41#8 ≤ b && b ≤ 0x5A#8

/-- lower(b): 'a' to 'z' (00_scope.md R12). -/
def lower (b : Byte) : Bool := 0x61#8 ≤ b && b ≤ 0x7A#8

/-- letter(b) = upper(b) OR lower(b) (00_scope.md R12). -/
def letter (b : Byte) : Bool := upper b || lower b

/-- All four bytes are letters: the TypeCode invariant of 10_state.md R29. -/
def allLetters (b : Bytes4) : Bool := letter b.b0 && letter b.b1 && letter b.b2 && letter b.b3

/-- critical(b) (41_typecode.md R100). -/
def critical (b : Bytes4) : Bool := upper b.b0

/-- public(b) (41_typecode.md R100). -/
def isPublic (b : Bytes4) : Bool := upper b.b1

/-- reserved_bit_valid(b) (41_typecode.md R100). -/
def reservedBitValid (b : Bytes4) : Bool := upper b.b2

/-- safe_to_copy(b): the one inverted property (41_typecode.md R100). -/
def safeToCopy (b : Bytes4) : Bool := !upper b.b3

/-- is_valid(b) = reserved_bit_valid(b) (41_typecode.md R101). -/
def isValid (b : Bytes4) : Bool := reservedBitValid b

/-- A boolean result in RES: 1 for true, 0 for false (10_state.md R25). -/
def boolWord (v : Bool) : Word := if v then 0x00000001#32 else 0x00000000#32

end Sys2Proof.Machine
end

