-- ==== Sys2Proof/Machine/Operands.lean ====
section
/-! DEFINITION. Byte order and the operand forms of 30_encoding.md R91: `arg4`, `text` and `bytes` (both are
IBUF[0:IBUF_LEN)), `slot`, `slots01` and `rec`. -/

namespace Sys2Proof.Machine

/-- The four bytes as a byte string, byte 0 first. -/
def bytesOf (b : Bytes4) : List Byte := [b.b0, b.b1, b.b2, b.b3]

/-- be32: the big-endian value of a 4-byte string, byte i in bits [31−8i : 24−8i] (00_scope.md R10, 20_memory.md R59). -/
def be32 (b : Bytes4) : Word := b.b0 ++ b.b1 ++ b.b2 ++ b.b3

/-- be32bytes: the 4-byte string of a u32, most significant byte first (00_scope.md R10). -/
def be32bytes (v : Word) : Bytes4 :=
  { b0 := v.extractLsb' 24 8, b1 := v.extractLsb' 16 8, b2 := v.extractLsb' 8 8, b3 := v.extractLsb' 0 8 }

/-- The 4-byte string s[a:a+4). A byte beyond the end of s is taken as 0; no caller reads one. -/
def bytes4At (s : List Byte) (a : Nat) : Bytes4 :=
  { b0 := s.getD a 0#8, b1 := s.getD (a + 1) 0#8, b2 := s.getD (a + 2) 0#8, b3 := s.getD (a + 3) 0#8 }

/-- s[a:a+n) (00_scope.md R10). -/
def slice (s : List Byte) (a n : Nat) : List Byte := (s.drop a).take n

/-- The byte that a buffer lists at an address; none where nothing has been written. -/
def Memory.read? : Memory → Nat → Option Byte
  | [], _ => none
  | (x, v) :: m, a => if x = a then some v else Memory.read? m a

/-- The operand `arg4`: the 4 bytes be32bytes(ARG) (30_encoding.md R91). -/
def State.arg4 (s : State) : Bytes4 := be32bytes s.arg

/-- The slot TC[t] (30_encoding.md R82, R91). -/
def State.slot (s : State) : SlotIx → TcSlot
  | .t0 => s.tc0
  | .t1 => s.tc1

/-- IBUF_LEN as a number. -/
def State.ibufCount (s : State) : Nat := s.ibufLen.toNat

/-- The byte a command reads at IBUF[a]. Where the host has written none since reset it is a free value
(10_state.md R37) (log 8). -/
def State.ibufByte (s : State) (a : Nat) : Byte := (s.ibuf.read? a).getD (Config.unwrittenByte s.draws a)

/-- The operand `bytes` (and `text`): the byte string IBUF[0:IBUF_LEN) (30_encoding.md R91). -/
def State.ibufBytes (s : State) : List Byte := (List.range s.ibufCount).map s.ibufByte

/-- Every address below n is in W_IBUF (10_state.md R37). -/
def State.ibufWritten (s : State) (n : Nat) : Bool := (List.range n).all fun a => (s.ibuf.read? a).isSome

end Sys2Proof.Machine
end

