-- ==== Sys2Proof/Machine/Utf8.lean ====
section
/-! DEFINITION. UTF-8 well-formedness and the count of scalar values (41_typecode.md R102). -/

namespace Sys2Proof.Machine

/-- The table of rule R102: each row lists the range of each byte of a well-formed sequence. -/
def utf8Table : List (List (Byte × Byte)) := [
  [(0x00#8, 0x7F#8)],
  [(0xC2#8, 0xDF#8), (0x80#8, 0xBF#8)],
  [(0xE0#8, 0xE0#8), (0xA0#8, 0xBF#8), (0x80#8, 0xBF#8)],
  [(0xE1#8, 0xEC#8), (0x80#8, 0xBF#8), (0x80#8, 0xBF#8)],
  [(0xED#8, 0xED#8), (0x80#8, 0x9F#8), (0x80#8, 0xBF#8)],
  [(0xEE#8, 0xEF#8), (0x80#8, 0xBF#8), (0x80#8, 0xBF#8)],
  [(0xF0#8, 0xF0#8), (0x90#8, 0xBF#8), (0x80#8, 0xBF#8), (0x80#8, 0xBF#8)],
  [(0xF1#8, 0xF3#8), (0x80#8, 0xBF#8), (0x80#8, 0xBF#8), (0x80#8, 0xBF#8)],
  [(0xF4#8, 0xF4#8), (0x80#8, 0x8F#8), (0x80#8, 0xBF#8), (0x80#8, 0xBF#8)]]

/-- The rest of the string after a sequence that matches one row. -/
def matchRow : List (Byte × Byte) → List Byte → Option (List Byte)
  | [], s => some s
  | _ :: _, [] => none
  | (lo, hi) :: row, b :: s => if lo ≤ b ∧ b ≤ hi then matchRow row s else none

/-- The rest of the string after its first well-formed sequence. -/
def utf8Next (s : List Byte) : Option (List Byte) := utf8Table.findSome? fun row => matchRow row s

/-- The number of sequences of the split from the front; none where there is no split. Each sequence takes at least
one byte, so `fuel`, the number of sequences allowed, need not exceed the length. -/
def utf8Scan : Nat → List Byte → Option Nat
  | _, [] => some 0
  | 0, _ :: _ => none
  | fuel + 1, b :: s =>
    match utf8Next (b :: s) with
    | none => none
    | some rest => (utf8Scan fuel rest).map (· + 1)

/-- The number of scalar values of a well-formed string, none of an ill-formed one (R102). -/
def utf8Split (s : List Byte) : Option Nat := utf8Scan s.length s

/-- utf8_valid(s) (R102). -/
def utf8Valid (s : List Byte) : Bool := (utf8Split s).isSome

/-- utf8_count(s) of a valid s (R102). -/
def utf8Count (s : List Byte) : Nat := (utf8Split s).getD 0

end Sys2Proof.Machine
end

