-- ==== Sys2Proof/Machine/Ops.lean ====
section
/-! DEFINITION. The operations that the meanings share: writing memory and registers, the pseudocode primitives of
00_scope.md R11, taking an error (60_exceptions.md R210: an error is a completion code, there is no trap to enter or
return from, R217, R218), the presence checks of 30_encoding.md R94, and the record functions of 43_chunk_record.md. -/

namespace Sys2Proof.Machine

/-- What a command answers. -/
abbrev Result := Host.Outcome State Fault Refusal

/-! ### Memory -/

/-- Write one byte, keeping the addresses strictly rising. -/
def Memory.write : Memory → Nat → Byte → Memory
  | [], a, b => [(a, b)]
  | (x, v) :: m, a, b =>
    if a < x then (a, b) :: (x, v) :: m
    else if a = x then (a, b) :: m
    else (x, v) :: Memory.write m a b

/-- Write a byte string from an address on. -/
def Memory.writeBytes : Memory → Nat → List Byte → Memory
  | m, _, [] => m
  | m, a, b :: bs => Memory.writeBytes (Memory.write m a b) (a + 1) bs

/-! ### Registers and bookkeeping -/

/-- Write RES (10_state.md R25). -/
def State.setRes (s : State) (v : Word) : State := { s with res := v }

/-- Write the whole slot TC[t] and set its PRESENT bit (10_state.md R28, R32). -/
def State.setSlot (s : State) (t : SlotIx) (b : Bytes4) : State :=
  match t with
  | .t0 => { s with tc0 := { present := true, bytes := b } }
  | .t1 => { s with tc1 := { present := true, bytes := b } }

/-- Write the whole of REC (10_state.md R30, R32). -/
def State.setRecord (s : State) (r : Record) : State := { s with record := r }

/-- MemWrite(OBUF, 0, n, bs) and OBUF_LEN <- n (00_scope.md R11, 10_state.md R27). -/
def State.storeObuf (s : State) (n : Nat) (bs : List Byte) : State :=
  { s with obuf := s.obuf.writeBytes 0 (bs.take n), obufLen := BitVec.ofNat 64 n }

/-- Leave a value in the hidden accumulator CRC_ACC (42_crc_generator.md R149) (log 16). -/
def State.setCrcAcc (s : State) (c : Word) : State := { s with crcAcc := c }

/-- Append an entry, with the word in CMD, to the fault log (10_state.md R38), as its last (log 22). -/
def State.logFault (s : State) (f : UsageFault) : State := { s with faultLog := s.faultLog ++ [(s.cmd, f)] }

/-- Set the refused mark (10_state.md R38). -/
def State.markRefused (s : State) : State := { s with refusedMark := true }

/-- Renew the free values (log 13). -/
def State.drawOne (s : State) : State := { s with draws := s.draws + 1 }

/-- The end of a command on every path: ERR gets the code and BUSY is cleared (10_state.md R23, 30_encoding.md R95). -/
def State.complete (s : State) (e : ErrCode) : State := { s with err := errByte e, busy := false }

/-- The host's write to CMD: the latch takes the word and BUSY is set (20_memory.md R53, 30_encoding.md R95). A command
renews the free values (log 13). -/
def State.latch (s : State) (w : Word) : State := { s with cmd := w, busy := true, draws := s.draws + 1 }

/-! ### The primitives of 00_scope.md R11 -/

/-- `finish`: the command ends successfully and its writes are committed. -/
def finish (s : State) : Result := .next (s.complete .ok)

/-- `raise E`: applied to the state before the command's writes, so none of them is made (60_exceptions.md R210). -/
def raise (e : ErrCode) (s : State) : Result := .next (s.complete e)

/-- A usage error: raised like any other, and recorded in the fault log (60_exceptions.md R213) (log 7). -/
def raiseFault (f : UsageFault) (e : ErrCode) (s : State) : Result := raise e (s.logFault f)

/-- Record the fault of a command that has read IBUF[0:n), if the host has not written all of it since reset
(10_state.md R37, R38) (log 8). -/
def State.noteRead (s : State) (n : Nat) : State :=
  if s.ibufWritten n then s else s.logFault .unwrittenIbuf

/-- Record that a command's text has no meaning, unless the command has faulted already: a command has exactly one of the
three outcomes of 00_scope.md R13 (log 10). -/
def State.noteRefused (s : State) (n : Nat) : State := if s.ibufWritten n then s.markRefused else s

/-- MemRead: the command reads IBUF[0:n) and goes on as k says. No byte exists at or beyond P_IBUF_CAP (log 18). -/
def readIbuf (n : Nat) (s : State) (k : State → Result) : Result :=
  if n ≤ s.cfg.ibufCap then k (s.noteRead n) else .fault .ibufAddress

/-- The end of a byte-string-result command: MemWrite(OBUF, 0, n, bs), OBUF_LEN <- n, finish (10_state.md R27).
No byte exists at or beyond P_OBUF_CAP (log 18). -/
def finishObuf (n : Nat) (bs : List Byte) (s : State) : Result :=
  if n ≤ s.cfg.obufCap then finish (s.storeObuf n bs) else .fault .obufAddress

/-- The end of a scalar-result command: RES <- v, finish (10_state.md R25). -/
def finishRes (v : Word) (s : State) : Result := finish (s.setRes v)

/-! ### Presence (30_encoding.md R94, R95) -/

/-- The command needs TC[t]: its bytes if present, else EmptyOperand. -/
def withSlot (t : SlotIx) (s : State) (k : Bytes4 → Result) : Result :=
  if (s.slot t).present then k (s.slot t).bytes else raiseFault .emptyOperand .emptyOperand s

/-- The command needs REC: its value if present, else EmptyOperand. -/
def withRecord (s : State) (k : Record → Result) : Result :=
  if s.record.present then k s.record else raiseFault .emptyOperand .emptyOperand s

/-! ### Records -/

/-- The record of a type code and a payload, with its length and its checksum (43_chunk_record.md R160). -/
def newRecord (type : Bytes4) (payload : List Byte) (n : Nat) : Record :=
  { present := true, len := BitVec.ofNat 32 n, type := type, payload := payload, crc := crc32 (crcMessage type payload) }

/-- encode(r): the wire form (43_chunk_record.md R167, 30_encoding.md R88). -/
def encodeRecord (r : Record) : List Byte :=
  bytesOf (be32bytes r.len) ++ bytesOf r.type ++ r.payload ++ bytesOf (be32bytes r.crc)

/-- How decode(buf) ends: how many bytes of buf its steps have read, and the error raised or the record. -/
structure Decoded where
  nread : Nat
  result : Except ErrCode Record

/-- decode(buf): the ordered chain of 43_chunk_record.md R169, with the bytes each step reads. -/
def decodeRecord (buf : List Byte) : Decoded :=
  if buf.length < 12 then { nread := 0, result := .error .tooShort }
  else
    let len := be32 (bytes4At buf 0)
    if buf.length ≠ 12 + len.toNat then { nread := 4, result := .error .lengthMismatch }
    else
      let type := bytes4At buf 4
      if allLetters type then
        let payload := slice buf 8 len.toNat
        let stored := be32 (bytes4At buf (8 + len.toNat))
        if crc32 (crcMessage type payload) = stored then
          { nread := buf.length,
            result := .ok { present := true, len := len, type := type, payload := payload, crc := stored } }
        else { nread := buf.length, result := .error .crcMismatch }
      else { nread := 8, result := .error .invalidTypeCode }

/-- The length of a text in the unit P_TEXT_LEN_UNIT (41_typecode.md R104). -/
def textLength (u : TextUnit) (text : List Byte) : Nat :=
  match u with
  | .chars => utf8Count text
  | .bytes => text.length

/-- P_RENDER(REC): at most P_OBUF_CAP bytes (00_scope.md R7) (log 3). -/
def renderBytes (cap : Nat) (r : Record) : List Byte := (Config.render r.len r.type r.payload r.crc).take cap

end Sys2Proof.Machine
end

