-- ==== Sys2Proof/Machine/ChunkRecord.lean ====
section
/-! DEFINITION. The ChunkRecord commands (43_chunk_record.md R160 to R171). -/

namespace Sys2Proof.Machine

/-- CHUNK_NEW (R160). -/
def execChunkNew (t : SlotIx) (s : State) : Result :=
  withSlot t s fun type =>
    if s.cfg.payloadCap < s.ibufCount then raiseFault .capacity .capacity s
    else readIbuf s.ibufCount s fun s' =>
      let payload := s.ibufBytes
      finish ((s'.setRecord (newRecord type payload s.ibufCount)).setCrcAcc (crcRun crcInit (crcMessage type payload)))

/-- CHUNK_LENGTH (R161). -/
def execChunkLength (s : State) : Result := withRecord s fun r => finishRes r.len s

/-- CHUNK_TYPE (R162). -/
def execChunkType (t : SlotIx) (s : State) : Result := withRecord s fun r => finish (s.setSlot t r.type)

/-- CHUNK_PAYLOAD (R163). -/
def execChunkPayload (s : State) : Result := withRecord s fun r => finishObuf r.len.toNat r.payload s

/-- CHUNK_CRC (R164). -/
def execChunkCrc (s : State) : Result := withRecord s fun r => finishRes r.crc s

/-- CHUNK_PAYLOAD_TEXT (R165, R166). -/
def execChunkPayloadText (s : State) : Result :=
  withRecord s fun r =>
    if utf8Valid r.payload then finishObuf r.len.toNat r.payload s else raise .utf8DecodeError s

/-- CHUNK_ENCODE (R167, R168). -/
def execChunkEncode (s : State) : Result := withRecord s fun r => finishObuf (12 + r.len.toNat) (encodeRecord r) s

/-- CHUNK_DECODE (R169, R170). Only the bytes that the chain's steps read count as read (R170, 60_exceptions.md R214). -/
def execChunkDecode (s : State) : Result :=
  let d := decodeRecord s.ibufBytes
  readIbuf d.nread s fun s' =>
    match d.result with
    | .error e => raise e s'
    | .ok r => finish ((s'.setRecord r).setCrcAcc (crcRun crcInit (crcMessage r.type r.payload)))

/-- CHUNK_RENDER (R171). -/
def execChunkRender (s : State) : Result :=
  withRecord s fun r =>
    let d := renderBytes s.cfg.obufCap r
    finishObuf d.length d s

end Sys2Proof.Machine
end

