-- ==== Sys2Proof/Machine/Generator.lean ====
section
/-! DEFINITION. The raw generator command (42_crc_generator.md R147). -/

namespace Sys2Proof.Machine

/-- CRC_COMPUTE (R147). The register it leaves in CRC_ACC is that of the message (R149). -/
def execCrcCompute (s : State) : Result :=
  readIbuf s.ibufCount s fun s' =>
    let m := s.ibufBytes
    finishRes (crc32 m) (s'.setCrcAcc (crcRun crcInit m))

end Sys2Proof.Machine
end

