-- ==== Sys2Proof/Machine/TypeCode.lean ====
section
/-! DEFINITION. The TypeCode commands (41_typecode.md R103 to R112). -/

namespace Sys2Proof.Machine

/-- TC_FROM_BYTES (R103). -/
def execTcFromBytes (t : SlotIx) (s : State) : Result :=
  if allLetters s.arg4 then finish (s.setSlot t s.arg4) else raise .invalidTypeCode s

/-- TC_FROM_TEXT (R104). Ill-formed UTF-8 is refused: the refused mark is set, and nothing else changes but STATUS,
whose ERR is a free value (92_eei_decisions.md D15) (log 10). -/
def execTcFromText (t : SlotIx) (s : State) : Result :=
  readIbuf s.ibufCount s fun s' =>
    let text := s.ibufBytes
    if utf8Valid text then
      if textLength s.cfg.textUnit text ≠ 4 then raise .invalidLength s'
      else if text.length ≠ 4 then raise .invalidTypeCode s'
      else if allLetters (bytes4At text 0) then finish (s'.setSlot t (bytes4At text 0))
      else raise .invalidTypeCode s'
    else raise (Config.unspecifiedErr s.draws) (s'.noteRefused s.ibufCount)

/-- TC_BYTES (R105). -/
def execTcBytes (t : SlotIx) (s : State) : Result := withSlot t s fun b => finishRes (be32 b) s

/-- TC_IS_CRITICAL (R106). -/
def execTcIsCritical (t : SlotIx) (s : State) : Result := withSlot t s fun b => finishRes (boolWord (critical b)) s

/-- TC_IS_PUBLIC (R107). -/
def execTcIsPublic (t : SlotIx) (s : State) : Result := withSlot t s fun b => finishRes (boolWord (isPublic b)) s

/-- TC_IS_RESERVED_BIT_VALID (R108). -/
def execTcIsReservedBitValid (t : SlotIx) (s : State) : Result :=
  withSlot t s fun b => finishRes (boolWord (reservedBitValid b)) s

/-- TC_IS_SAFE_TO_COPY (R109). -/
def execTcIsSafeToCopy (t : SlotIx) (s : State) : Result := withSlot t s fun b => finishRes (boolWord (safeToCopy b)) s

/-- TC_IS_VALID (R110). -/
def execTcIsValid (t : SlotIx) (s : State) : Result := withSlot t s fun b => finishRes (boolWord (isValid b)) s

/-- TC_RENDER (R111). -/
def execTcRender (t : SlotIx) (s : State) : Result := withSlot t s fun b => finishObuf 4 (bytesOf b) s

/-- TC_EQUAL (R112). TC[0] is checked before TC[1] (60_exceptions.md R214). -/
def execTcEqual (s : State) : Result :=
  withSlot .t0 s fun b0 => withSlot .t1 s fun b1 => finishRes (boolWord (b0 = b1)) s

end Sys2Proof.Machine
end

