-- ==== Sys2Proof/Machine/Dispatch.lean ====
section
/-! DEFINITION. The meaning of every command, one arm each: "run the rule named in rule R85" (30_encoding.md R95). -/

namespace Sys2Proof.Machine

def exec (i : Instr) (s : State) : Host.Outcome State Fault Refusal :=
  match i with
  | .tcFromBytes t => Sys2Proof.Machine.execTcFromBytes t s
  | .tcFromText t => Sys2Proof.Machine.execTcFromText t s
  | .tcBytes t => Sys2Proof.Machine.execTcBytes t s
  | .tcIsCritical t => Sys2Proof.Machine.execTcIsCritical t s
  | .tcIsPublic t => Sys2Proof.Machine.execTcIsPublic t s
  | .tcIsReservedBitValid t => Sys2Proof.Machine.execTcIsReservedBitValid t s
  | .tcIsSafeToCopy t => Sys2Proof.Machine.execTcIsSafeToCopy t s
  | .tcIsValid t => Sys2Proof.Machine.execTcIsValid t s
  | .tcRender t => Sys2Proof.Machine.execTcRender t s
  | .tcEqual => Sys2Proof.Machine.execTcEqual s
  | .chunkNew t => Sys2Proof.Machine.execChunkNew t s
  | .chunkLength => Sys2Proof.Machine.execChunkLength s
  | .chunkType t => Sys2Proof.Machine.execChunkType t s
  | .chunkPayload => Sys2Proof.Machine.execChunkPayload s
  | .chunkCrc => Sys2Proof.Machine.execChunkCrc s
  | .chunkPayloadText => Sys2Proof.Machine.execChunkPayloadText s
  | .chunkEncode => Sys2Proof.Machine.execChunkEncode s
  | .chunkDecode => Sys2Proof.Machine.execChunkDecode s
  | .chunkRender => Sys2Proof.Machine.execChunkRender s
  | .crcCompute => Sys2Proof.Machine.execCrcCompute s

end Sys2Proof.Machine
end

