-- ==== Sys2Proof/Machine/HostBus.lean ====
section
/-! DEFINITION. The command cycle (30_encoding.md R95) and the host's operations on the block (20_memory.md R50 to
R56, with the hazards of 70_reset_and_hazards.md R243, R244). -/

namespace Sys2Proof.Machine

/-- The engine runs the command in its latch: it decodes the word, raises IllegalCommand on an illegal one, and runs
the rule of a legal one (30_encoding.md R95, 60_exceptions.md R214). -/
def runCommand (s : State) : Result :=
  match decode s.cmd with
  | .error _ => raiseFault .illegalCommand .illegalCommand s
  | .ok i => exec i s

/-- A host write that only changes the block's registers or IBUF, refused while BUSY = 1 (70_reset_and_hazards.md R243). -/
def unlessBusy (s : State) (r : Result) : Result := if s.busy then .refused (.writeWhileBusy s.markRefused) else r

/-- A host write to CMD: it starts the command, and the model runs it to its end in the same transition
(20_memory.md R53, 70_reset_and_hazards.md R247). -/
def writeCmd (w : Word) (s : State) : Result := unlessBusy s (runCommand (s.latch w))

/-- A host write to IBUF_LEN (20_memory.md R54). Its bound is looked at before BUSY (log 21). -/
def writeIbufLen (v : Dword) (s : State) : Result :=
  if s.cfg.ibufCap < v.toNat then .refused (.ibufLenTooLarge s.markRefused)
  else unlessBusy s (.next { s with ibufLen := v })

/-- HostWriteReg(off, v), at the offsets and widths of 20_memory.md R51. Writes to STATUS, RES and OBUF_LEN are ignored
(R63) (log 20). Any other access is refused (R52). -/
def hostWriteReg (off : Nat) (v : AccessData) (s : State) : Result :=
  match off, v with
  | 0x00, .w32 w => writeCmd w s
  | 0x04, .w32 _ => .next s
  | 0x08, .w32 w => unlessBusy s (.next { s with arg := w })
  | 0x0C, .w32 _ => .next s
  | 0x10, .w64 w => writeIbufLen w s
  | 0x18, .w64 _ => .next s
  | _, _ => .refused (.registerAccess s.markRefused)

/-- A host read returns a value and changes nothing in the block (20_memory.md R63). -/
def State.reply (s : State) (r : Reply) : State := { s with replies := s.replies ++ [r] }

/-- A host read of result state: while BUSY = 1 it is refused, and returns a free value (70_reset_and_hazards.md R244) (log 11).
The command then runs between two such reads, so they need not agree (20_memory.md R63). -/
def readResult (s : State) (v busyValue : Reply) : Result :=
  if s.busy then .next (s.reply busyValue).markRefused.drawOne else .next (s.reply v)

/-- HostReadReg(off), at the offsets and widths of 20_memory.md R51. Any other access is refused (R52). -/
def hostReadReg (off : Nat) (width : AccessWidth) (s : State) : Result :=
  match off, width with
  | 0x00, .w32 => .next (s.reply (.word s.cmd))
  | 0x04, .w32 => .next (s.reply (.word (statusWord s)))
  | 0x08, .w32 => .next (s.reply (.word s.arg))
  | 0x0C, .w32 => readResult s (.word s.res) (.word (Config.busyRes s.draws))
  | 0x10, .w64 => .next (s.reply (.dword s.ibufLen))
  | 0x18, .w64 => readResult s (.dword s.obufLen) (.dword (Config.busyObufLen s.draws))
  | _, _ => .refused (.registerAccess s.markRefused)

/-- HostWriteIBUF(a, b) (20_memory.md R50, R55) (log 21). -/
def hostWriteIbuf (a : Nat) (b : Byte) (s : State) : Result :=
  if s.cfg.ibufCap ≤ a then .refused (.ibufAddress s.markRefused)
  else unlessBusy s (.next { s with ibuf := s.ibuf.write a b })

/-- HostReadOBUF(a) (20_memory.md R56). At or beyond OBUF_LEN the byte is a free value, and the fault is logged (log 9).
The free value is renewed by a command or a reset only, so that reads are idempotent (R63). While BUSY = 1 a read at or
beyond OBUF_LEN is both R56's fault and the refusal of 70_reset_and_hazards.md R244, and the spec does not say which holds:
that the model makes it the refusal, and logs no fault, is a DESIGN CHOICE (log 26). -/
def hostReadObuf (a : Nat) (s : State) : Result :=
  if s.cfg.obufCap ≤ a then .refused (.obufAddress s.markRefused)
  else if s.busy then .next (s.reply (.byte (Config.busyByte s.draws a))).markRefused.drawOne
  else if a < s.obufLen.toNat then .next (s.reply (.byte ((s.obuf.read? a).getD (Config.staleByte s.draws a))))
  else .next ((s.reply (.byte (Config.staleByte s.draws a))).logFault .obufBeyondLen)

/-- Reset(): the block's state as after reset (70_reset_and_hazards.md R240). The parameters, the host's own side and the
count of renewals are not the block's state (log 13, log 23). A reset renews the free values. -/
def hostReset (s : State) : Result :=
  .next { State.resetWith s.cfg with hostQ := s.hostQ, replies := s.replies, draws := s.draws + 1 }

/-- One host action (20_memory.md R50). -/
def hostAct (op : HostOp) (s : State) : Result :=
  match op with
  | .writeReg off v => hostWriteReg off v s
  | .readReg off width => hostReadReg off width s
  | .writeIbuf a b => hostWriteIbuf a b s
  | .readObuf a => hostReadObuf a s
  | .reset => hostReset s

/-- A step in which the host does nothing: an idle block waits (70_reset_and_hazards.md R241), and a block with BUSY = 1
completes its command (R245) (log 6). -/
def engineAct (s : State) : Result := if s.busy then runCommand s else .next s

/-- The next host action is at hand: it leaves the queue and acts on the block. With none, the engine has its turn (log 5). -/
def stepState (s : State) : Result :=
  match s.hostQ with
  | [] => engineAct s
  | op :: rest => hostAct op { s with hostQ := rest }

end Sys2Proof.Machine
end

