-- ==== Sys2Proof/Machine/Step.lean ====
section
/-! DEFINITION. One step of the whole machine, and how the host places a command. -/

namespace Sys2Proof.Machine

/-- One step: the next host action, or the engine's turn (20_memory.md R50, R66). -/
def step (s : State) : Host.Outcome State Fault Refusal := stepState s

/-- The state in which the host's next action writes the word w to CMD while BUSY = 0, which is how a command comes to run
(20_memory.md R53) (log 5). The bits at and above `nbits` are 0. -/
def State.withFetchWord (s : State) (nbits w : Nat) : State :=
  { s with busy := false, hostQ := .writeReg 0x00 (.w32 (BitVec.ofNat 32 (w % 2 ^ nbits))) :: s.hostQ }

end Sys2Proof.Machine
end

