-- ==== Sys2Proof/Safety.lean ====
section
/-! DEFINITION. What counts as a legal state, a lawful host action and a clean run: the terms in which claims are stated. -/

namespace Sys2Proof.Machine

/-- The values that STATUS.ERR can hold (60_exceptions.md R211). -/
def listedErrs : List Byte := [0x00#8, 0x01#8, 0x02#8, 0x03#8, 0x04#8, 0x05#8, 0x06#8, 0x80#8, 0x81#8, 0x82#8]

/-- The TypeCode invariant of a slot (10_state.md R29). -/
def TcSlot.ok (c : TcSlot) : Prop := c.present = true → allLetters c.bytes = true

/-- The fields of a record that holds a value, and that the block with payload capacity `cap` can hold (10_state.md R30, R31). -/
structure Record.fieldsOk (cap : Nat) (r : Record) : Prop where
  len : r.len.toNat = r.payload.length
  type : allLetters r.type = true
  crc : r.crc = crc32 (crcMessage r.type r.payload)
  fits : r.payload.length ≤ cap

/-- The record invariant (10_state.md R31). -/
def Record.ok (cap : Nat) (r : Record) : Prop := r.present = true → Record.fieldsOk cap r

/-- A buffer in canonical form, with no byte at or beyond its capacity. -/
def Memory.within (m : Memory) (cap : Nat) : Prop := m.wf ∧ ∀ c ∈ m, c.1 < cap

/-- The invariant of the block: its parameters are lawful, no command is left running (70_reset_and_hazards.md R247), and
10_state.md R21, R29 and R31 and 60_exceptions.md R211 hold. -/
structure State.Inv (s : State) : Prop where
  cfg : s.cfg.wf
  idle : s.busy = false
  err : s.err ∈ listedErrs
  ibufLen : s.ibufLen.toNat ≤ s.cfg.ibufCap
  obufLen : s.obufLen.toNat ≤ s.cfg.obufCap
  ibuf : s.ibuf.within s.cfg.ibufCap
  obuf : s.obuf.within s.cfg.obufCap
  obufHeld : ∀ a, a < s.obufLen.toNat → (s.obuf.read? a).isSome = true
  tc0 : s.tc0.ok
  tc1 : s.tc1.ok
  record : s.record.ok s.cfg.payloadCap

/-- IBUF[0:IBUF_LEN) is the byte string bs, every byte of it written by the host, within P_IBUF_CAP. -/
structure State.IbufIs (s : State) (bs : List Byte) : Prop where
  len : s.ibufLen.toNat = bs.length
  bytes : ∀ a, a < bs.length → s.ibuf.read? a = bs[a]?
  fits : bs.length ≤ s.cfg.ibufCap

/-- IBUF[a:a+4) is the four bytes b, every one of them written by the host. -/
def State.IbufHolds (s : State) (a : Nat) (b : Bytes4) : Prop :=
  s.ibuf.read? a = some b.b0 ∧ s.ibuf.read? (a + 1) = some b.b1 ∧ s.ibuf.read? (a + 2) = some b.b2 ∧
    s.ibuf.read? (a + 3) = some b.b3

/-- OBUF[0:OBUF_LEN) is the byte string bs. -/
structure State.ObufIs (s : State) (bs : List Byte) : Prop where
  len : s.obufLen.toNat = bs.length
  bytes : ∀ a, a < bs.length → s.obuf.read? a = bs[a]?

/-- The fault log is empty and the refused mark is clear: the premise of a claim about a host program (10_state.md R38). -/
def State.Clean (s : State) : Prop := s.faultLog = [] ∧ s.refusedMark = false

/-- The register accesses that the block accepts: whole, at the register's own offset and width (20_memory.md R51, R52). -/
def regAccesses : List (Nat × AccessWidth) := [(0x00, .w32), (0x04, .w32), (0x08, .w32), (0x0C, .w32), (0x10, .w64), (0x18, .w64)]

/-- The 31 legal command words: the 20 commands with T = 0 and the 11 that use T with T = 1 (30_encoding.md R85, R87). -/
def legalWords : List Word := [
  0x001#32, 0x002#32, 0x003#32, 0x004#32, 0x005#32, 0x006#32, 0x007#32, 0x008#32, 0x009#32, 0x00A#32,
  0x010#32, 0x011#32, 0x012#32, 0x013#32, 0x014#32, 0x015#32, 0x016#32, 0x017#32, 0x018#32, 0x020#32,
  0x101#32, 0x102#32, 0x103#32, 0x104#32, 0x105#32, 0x106#32, 0x107#32, 0x108#32, 0x109#32, 0x110#32, 0x112#32]

/-- The width of the data of a write. -/
def dataWidth : AccessData → AccessWidth
  | .w32 _ => .w32
  | .w64 _ => .w64
  | .other n _ => .other n

/-- The host actions that the block accepts while BUSY = 0 (20_memory.md R52, R54, R55, R56). -/
def lawful (s : State) : HostOp → Prop
  | .writeReg off v =>
    (off, dataWidth v) ∈ regAccesses ∧ ∀ d, off = 0x10 → v = .w64 d → d.toNat ≤ s.cfg.ibufCap
  | .readReg off width => (off, width) ∈ regAccesses
  | .writeIbuf a _ => a < s.cfg.ibufCap
  | .readObuf a => a < s.cfg.obufCap
  | .reset => True

/-- A refusal of a host action, carrying the state s. -/
def refusalCarries (r : Refusal) (s : State) : Prop :=
  r = .writeWhileBusy s ∨ r = .registerAccess s ∨ r = .ibufLenTooLarge s ∨ r = .ibufAddress s ∨ r = .obufAddress s

/-- Two states that agree on everything but the hidden state of 10_state.md R39. -/
def sameButHidden (s t : State) : Prop := t = { s with crcAcc := t.crcAcc, stepIndex := t.stepIndex }

/-- Two refusals of the same name, carrying states that agree on everything but the hidden state. -/
def refusalsAlike (r r' : Refusal) : Prop :=
  ∃ s s', sameButHidden s s' ∧
    ((r = .writeWhileBusy s ∧ r' = .writeWhileBusy s') ∨ (r = .registerAccess s ∧ r' = .registerAccess s') ∨
      (r = .ibufLenTooLarge s ∧ r' = .ibufLenTooLarge s') ∨ (r = .ibufAddress s ∧ r' = .ibufAddress s') ∨
      (r = .obufAddress s ∧ r' = .obufAddress s'))

/-- The host actions that read (20_memory.md R50). -/
def isRead : HostOp → Prop
  | .readReg _ _ => True
  | .readObuf _ => True
  | .writeReg _ _ => False
  | .writeIbuf _ _ => False
  | .reset => False

/-- The host actions that neither start a command nor reset the block (20_memory.md R53, R63). -/
def quiet : HostOp → Prop
  | .writeReg off _ => off ≠ 0x00
  | .readReg _ _ => True
  | .writeIbuf _ _ => True
  | .readObuf _ => True
  | .reset => False

/-- The action writes the register that `read` reads: ARG or IBUF_LEN, the registers that a write changes without starting a
command (20_memory.md R51, R63). -/
def overwrites (op read : HostOp) : Prop :=
  ∃ off v width, op = .writeReg off v ∧ read = .readReg off width ∧ (off = 0x08 ∨ off = 0x10)

/-- A byte sequence matches a row of the UTF-8 table, byte for byte (41_typecode.md R102). -/
def utf8RowMatches (row : List (Byte × Byte)) (q : List Byte) : Prop := List.Forall₂ (fun r b => r.1 ≤ b ∧ b ≤ r.2) row q

end Sys2Proof.Machine
end

