-- ==== Sys2Proof/Certificates/Slice0/Obligations.lean ====
section
/-! DEFINITION. The statements for the provers, each from a numbered rule of spec/. -/

open Sys2Proof Sys2Proof.Machine

/-! ### Encoding -/

/-- 30_encoding.md R80, R85, R87: the legal words are exactly the words of the commands, one each. -/
def Obligations.DecodeYieldsCommandExactlyOnItsWord : Prop :=
  ∀ (w : Word) (i : Instr), decode w = .ok i ↔ w = encode i

/-- 30_encoding.md R83, R84, R86, and their order, 60_exceptions.md R214 items 1 to 3. -/
def Obligations.DecodeReportsFirstFailingCheck : Prop :=
  ∀ w : Word,
    (decode w = .error .reservedBits ↔ w.extractLsb' 9 23 ≠ 0) ∧
    (decode w = .error .unassignedOpcode ↔
      w.extractLsb' 9 23 = 0 ∧
        (let opc := (w.extractLsb' 0 8).toNat
         opc = 0x00 ∨ (0x0B ≤ opc ∧ opc ≤ 0x0F) ∨ (0x19 ≤ opc ∧ opc ≤ 0x1F) ∨ 0x21 ≤ opc)) ∧
    (decode w = .error .slotNotUsed ↔
      w.extractLsb' 9 23 = 0 ∧ w.extractLsb' 8 1 = 1 ∧
        w.extractLsb' 0 8 ∈ [0x0A#8, 0x11#8, 0x13#8, 0x14#8, 0x15#8, 0x16#8, 0x17#8, 0x18#8, 0x20#8])

/-- Words written out from the "Encoding" lines of 41_typecode.md, 42_crc_generator.md and 43_chunk_record.md. -/
def Obligations.SampleWordsDecode : Prop :=
  decode 0b00000000000000000000000_1_00000001#32 = .ok (.tcFromBytes .t1) ∧
  decode 0b00000000000000000000000_0_00000111#32 = .ok (.tcIsSafeToCopy .t0) ∧
  decode 0b00000000000000000000000_0_00001010#32 = .ok .tcEqual ∧
  decode 0b00000000000000000000000_1_00010010#32 = .ok (.chunkType .t1) ∧
  decode 0b00000000000000000000000_0_00010111#32 = .ok .chunkDecode ∧
  decode 0b00000000000000000000000_0_00100000#32 = .ok .crcCompute

/-- 30_encoding.md R83, R84, R86, R87: every word but the 31 legal ones raises IllegalCommand, code 0x80, and no other state
changes. That the fault is recorded is 10_state.md R38. The queue of host actions and the count that a
command advances are the model's own (log 5, log 13). -/
def Obligations.IllegalWordRaisesIllegalCommand : Prop :=
  ∀ (s : State) (w : Word) (rest : List HostOp),
    s.busy = false → s.hostQ = .writeReg 0x00 (.w32 w) :: rest → w ∉ legalWords →
    step s = .next { s with
      hostQ := rest, cmd := w, err := 0x80#8, busy := false, draws := s.draws + 1,
      faultLog := s.faultLog ++ [(w, .illegalCommand)] }

/-- 20_memory.md R53, 30_encoding.md R95: a CMD write while BUSY = 0 runs the command of its word, with the word latched in
CMD and BUSY set; so does the very next step of a state that `withFetchWord` prepared. The queue of host actions and
the count that a command advances are the model's own (log 5, log 13). -/
def Obligations.StepRunsDecodedCommand : Prop :=
  (∀ (s : State) (w : Word) (i : Instr) (rest : List HostOp),
    s.busy = false → s.hostQ = .writeReg 0x00 (.w32 w) :: rest → decode w = .ok i →
    step s = exec i { s with hostQ := rest, cmd := w, busy := true, draws := s.draws + 1 }) ∧
  (∀ (s : State) (w : Word) (i : Instr), decode w = .ok i →
    step (s.withFetchWord 32 w.toNat) = exec i { s with cmd := w, busy := true, draws := s.draws + 1 })

/-! ### TypeCode commands -/

/-- 41_typecode.md R103. -/
def Obligations.TcFromBytesBuildsTypeCode : Prop :=
  decode 0x00000001#32 = .ok (.tcFromBytes .t0) ∧ decode 0x00000101#32 = .ok (.tcFromBytes .t1) ∧
  ∀ (t : SlotIx) (s : State),
    (allLetters (be32bytes s.arg) = true →
      exec (.tcFromBytes t) s = .next { s with
        tc0 := if t = .t0 then ⟨true, be32bytes s.arg⟩ else s.tc0,
        tc1 := if t = .t1 then ⟨true, be32bytes s.arg⟩ else s.tc1,
        err := 0x00#8, busy := false }) ∧
    (allLetters (be32bytes s.arg) = false →
      exec (.tcFromBytes t) s = .next { s with err := 0x01#8, busy := false }) ∧
    (allLetters (be32bytes s.arg) = true → lower (be32bytes s.arg).b2 = true → isValid (be32bytes s.arg) = false)

/-- 41_typecode.md R104, for a text that is well-formed UTF-8, in either unit. -/
def Obligations.TcFromTextOnWellFormedText : Prop :=
  decode 0x00000002#32 = .ok (.tcFromText .t0) ∧ decode 0x00000102#32 = .ok (.tcFromText .t1) ∧
  ∀ (t : SlotIx) (s : State) (text : List Byte),
    s.IbufIs text → utf8Valid text = true →
    (textLength s.cfg.textUnit text ≠ 4 → exec (.tcFromText t) s = .next { s with err := 0x02#8, busy := false }) ∧
    (textLength s.cfg.textUnit text = 4 → text.length ≠ 4 →
      exec (.tcFromText t) s = .next { s with err := 0x01#8, busy := false }) ∧
    (textLength s.cfg.textUnit text = 4 → ∀ b : Bytes4, text = bytesOf b → allLetters b = false →
      exec (.tcFromText t) s = .next { s with err := 0x01#8, busy := false }) ∧
    (∀ b : Bytes4, text = bytesOf b → allLetters b = true →
      exec (.tcFromText t) s = .next { s with
        tc0 := if t = .t0 then ⟨true, b⟩ else s.tc0,
        tc1 := if t = .t1 then ⟨true, b⟩ else s.tc1,
        err := 0x00#8, busy := false })

/-- 92_eei_decisions.md D15: text that is not well-formed UTF-8 changes no state other than STATUS. That the model goes on
with the refused mark set and a free ERR is the model's choice (log 10). -/
def Obligations.TcFromTextOnIllFormedText : Prop :=
  ∀ (t : SlotIx) (s : State) (text : List Byte), s.IbufIs text → utf8Valid text = false →
    ∃ e : ErrCode, exec (.tcFromText t) s =
      .next { s with err := errByte e, busy := false, refusedMark := true }

/-- 41_typecode.md R104, corner cases: four ASCII letters succeed in either unit, with the result of the byte constructor;
and nothing else succeeds. -/
def Obligations.TextConstructorAgreesWithByteConstructor : Prop :=
  ∀ (t : SlotIx) (s : State) (text : List Byte), s.IbufIs text → utf8Valid text = true →
    (∀ s', exec (.tcFromText t) s = .next s' → s'.err = 0x00#8 →
      ∃ b : Bytes4, text = bytesOf b ∧ allLetters b = true ∧
        exec (.tcFromBytes t) { s with arg := be32 b } = .next { s' with arg := be32 b }) ∧
    (∀ b : Bytes4, text = bytesOf b → allLetters b = true →
      ∃ s', exec (.tcFromText t) s = .next s' ∧ s'.err = 0x00#8)

/-- 41_typecode.md R105. -/
def Obligations.TcBytesReturnsPackedBytes : Prop :=
  decode 0x00000003#32 = .ok (.tcBytes .t0) ∧ decode 0x00000103#32 = .ok (.tcBytes .t1) ∧
  ∀ (t : SlotIx) (s : State),
    ((s.slot t).present = true →
      exec (.tcBytes t) s = .next { s with res := be32 (s.slot t).bytes, err := 0x00#8, busy := false }) ∧
    ((s.slot t).ok → (s.slot t).present = true → allLetters (be32bytes (be32 (s.slot t).bytes)) = true) ∧
    ((s.slot t).present = false →
      exec (.tcBytes t) s = .next { s with err := 0x81#8, busy := false, faultLog := s.faultLog ++ [(s.cmd, .emptyOperand)] })

/-- 41_typecode.md R106. -/
def Obligations.TcIsCriticalReadsByte0 : Prop :=
  decode 0x00000004#32 = .ok (.tcIsCritical .t0) ∧ decode 0x00000104#32 = .ok (.tcIsCritical .t1) ∧
  ∀ (t : SlotIx) (s : State),
    ((s.slot t).present = true →
      exec (.tcIsCritical t) s = .next { s with
        res := if 0x41#8 ≤ (s.slot t).bytes.b0 ∧ (s.slot t).bytes.b0 ≤ 0x5A#8 then 1#32 else 0#32,
        err := 0x00#8, busy := false }) ∧
    ((s.slot t).present = false →
      exec (.tcIsCritical t) s = .next { s with
        err := 0x81#8, busy := false, faultLog := s.faultLog ++ [(s.cmd, .emptyOperand)] })

/-- 41_typecode.md R107. -/
def Obligations.TcIsPublicReadsByte1 : Prop :=
  decode 0x00000005#32 = .ok (.tcIsPublic .t0) ∧ decode 0x00000105#32 = .ok (.tcIsPublic .t1) ∧
  ∀ (t : SlotIx) (s : State),
    ((s.slot t).present = true →
      exec (.tcIsPublic t) s = .next { s with
        res := if 0x41#8 ≤ (s.slot t).bytes.b1 ∧ (s.slot t).bytes.b1 ≤ 0x5A#8 then 1#32 else 0#32,
        err := 0x00#8, busy := false }) ∧
    ((s.slot t).present = false →
      exec (.tcIsPublic t) s = .next { s with
        err := 0x81#8, busy := false, faultLog := s.faultLog ++ [(s.cmd, .emptyOperand)] })

/-- 41_typecode.md R108. -/
def Obligations.TcIsReservedBitValidReadsByte2 : Prop :=
  decode 0x00000006#32 = .ok (.tcIsReservedBitValid .t0) ∧ decode 0x00000106#32 = .ok (.tcIsReservedBitValid .t1) ∧
  ∀ (t : SlotIx) (s : State),
    ((s.slot t).present = true →
      exec (.tcIsReservedBitValid t) s = .next { s with
        res := if 0x41#8 ≤ (s.slot t).bytes.b2 ∧ (s.slot t).bytes.b2 ≤ 0x5A#8 then 1#32 else 0#32,
        err := 0x00#8, busy := false }) ∧
    ((s.slot t).present = false →
      exec (.tcIsReservedBitValid t) s = .next { s with
        err := 0x81#8, busy := false, faultLog := s.faultLog ++ [(s.cmd, .emptyOperand)] })

/-- 41_typecode.md R109: the sense is inverted, a lowercase byte 3 gives 1. -/
def Obligations.TcIsSafeToCopyReadsByte3 : Prop :=
  decode 0x00000007#32 = .ok (.tcIsSafeToCopy .t0) ∧ decode 0x00000107#32 = .ok (.tcIsSafeToCopy .t1) ∧
  ∀ (t : SlotIx) (s : State),
    ((s.slot t).present = true →
      exec (.tcIsSafeToCopy t) s = .next { s with
        res := if 0x41#8 ≤ (s.slot t).bytes.b3 ∧ (s.slot t).bytes.b3 ≤ 0x5A#8 then 0#32 else 1#32,
        err := 0x00#8, busy := false }) ∧
    ((s.slot t).present = true → 0x61#8 ≤ (s.slot t).bytes.b3 ∧ (s.slot t).bytes.b3 ≤ 0x7A#8 →
      exec (.tcIsSafeToCopy t) s = .next { s with res := 1#32, err := 0x00#8, busy := false }) ∧
    ((s.slot t).present = false →
      exec (.tcIsSafeToCopy t) s = .next { s with
        err := 0x81#8, busy := false, faultLog := s.faultLog ++ [(s.cmd, .emptyOperand)] })

/-- 41_typecode.md R110: always the result of TC_IS_RESERVED_BIT_VALID. -/
def Obligations.TcIsValidReadsByte2 : Prop :=
  decode 0x00000008#32 = .ok (.tcIsValid .t0) ∧ decode 0x00000108#32 = .ok (.tcIsValid .t1) ∧
  ∀ (t : SlotIx) (s : State),
    ((s.slot t).present = true →
      exec (.tcIsValid t) s = .next { s with
        res := if 0x41#8 ≤ (s.slot t).bytes.b2 ∧ (s.slot t).bytes.b2 ≤ 0x5A#8 then 1#32 else 0#32,
        err := 0x00#8, busy := false }) ∧
    exec (.tcIsValid t) s = exec (.tcIsReservedBitValid t) s ∧
    ((s.slot t).present = false →
      exec (.tcIsValid t) s = .next { s with
        err := 0x81#8, busy := false, faultLog := s.faultLog ++ [(s.cmd, .emptyOperand)] })

/-- 41_typecode.md R111: OBUF[0:4) holds the four bytes, every other OBUF byte is as before. -/
def Obligations.TcRenderWritesFourBytes : Prop :=
  decode 0x00000009#32 = .ok (.tcRender .t0) ∧ decode 0x00000109#32 = .ok (.tcRender .t1) ∧
  ∀ (t : SlotIx) (s : State),
    (s.cfg.wf → (s.slot t).present = true →
      ∃ m, exec (.tcRender t) s = .next { s with obuf := m, obufLen := 4#64, err := 0x00#8, busy := false } ∧
        m.read? 0 = some (s.slot t).bytes.b0 ∧ m.read? 1 = some (s.slot t).bytes.b1 ∧
        m.read? 2 = some (s.slot t).bytes.b2 ∧ m.read? 3 = some (s.slot t).bytes.b3 ∧
        ∀ a, 4 ≤ a → m.read? a = s.obuf.read? a) ∧
    ((s.slot t).ok → (s.slot t).present = true → utf8Valid (bytesOf (s.slot t).bytes) = true) ∧
    ((s.slot t).present = false →
      exec (.tcRender t) s = .next { s with
        err := 0x81#8, busy := false, faultLog := s.faultLog ++ [(s.cmd, .emptyOperand)] })

/-- 41_typecode.md R112. -/
def Obligations.TcEqualComparesBothSlots : Prop :=
  decode 0x0000000A#32 = .ok .tcEqual ∧ decode 0x0000010A#32 = .error .slotNotUsed ∧
  ∀ s : State,
    (s.tc0.present = true → s.tc1.present = true →
      exec .tcEqual s = .next { s with
        res := if s.tc0.bytes = s.tc1.bytes then 1#32 else 0#32, err := 0x00#8, busy := false }) ∧
    (s.tc0.present = false ∨ s.tc1.present = false →
      exec .tcEqual s = .next { s with
        err := 0x81#8, busy := false, faultLog := s.faultLog ++ [(s.cmd, .emptyOperand)] })

/-! ### The generator -/

/-- 42_crc_generator.md R147. The value left in the hidden CRC_ACC is not stated. -/
def Obligations.CrcComputeReturnsCrcOfInput : Prop :=
  decode 0x00000020#32 = .ok .crcCompute ∧ decode 0x00000120#32 = .error .slotNotUsed ∧
  (∀ (s : State) (m : List Byte), s.IbufIs m →
    ∃ c, exec .crcCompute s = .next { s with res := crc32 m, crcAcc := c, err := 0x00#8, busy := false }) ∧
  (∀ (buf : List Byte) (r : Record), (decodeRecord buf).result = .ok r → crc32 ((buf.drop 4).take (4 + r.len.toNat)) = r.crc)

/-- 42_crc_generator.md R143: each of the 256 table entries is eight steps of the inner loop of R141. -/
def Obligations.CrcTableHoldsEightStepValues : Prop :=
  crcTable.length = 256 ∧ ∀ i : Nat, i < 256 → crcTable[i]? = some (crcBits8 (BitVec.ofNat 32 i))

/-- 42_crc_generator.md R144. -/
def Obligations.CrcTableFormEqualsBitSerial : Prop := ∀ m : List Byte, crc32Table m = crc32 m

/-- 42_crc_generator.md R145: the MSB-first formulation with the normal polynomial. -/
def Obligations.CrcNormalFormEqualsBitSerial : Prop := ∀ m : List Byte, crc32Normal m = crc32 m

/-- 42_crc_generator.md R146 (a), (b), (c). -/
def Obligations.CrcCheckValuesAndResidue : Prop :=
  crc32 [] = 0x00000000#32 ∧
  crc32 [0x31#8, 0x32#8, 0x33#8, 0x34#8, 0x35#8, 0x36#8, 0x37#8, 0x38#8, 0x39#8] = 0xCBF43926#32 ∧
  ∀ m : List Byte, crcRun crcInit (m ++ le32bytes (crc32 m)) = 0xDEBB20E3#32

/-! ### ChunkRecord commands -/

/-- 43_chunk_record.md R160. The value left in the hidden CRC_ACC is not stated. -/
def Obligations.ChunkNewBuildsRecord : Prop :=
  decode 0x00000010#32 = .ok (.chunkNew .t0) ∧ decode 0x00000110#32 = .ok (.chunkNew .t1) ∧
  ∀ (t : SlotIx) (s : State),
    (∀ p : List Byte, s.cfg.wf → (s.slot t).present = true → s.IbufIs p → p.length ≤ s.cfg.payloadCap →
      ∃ (c n : Word), n.toNat = p.length ∧
        exec (.chunkNew t) s = .next { s with
          record := ⟨true, n, (s.slot t).bytes, p, crc32 (bytesOf (s.slot t).bytes ++ p)⟩,
          crcAcc := c, err := 0x00#8, busy := false }) ∧
    ((s.slot t).present = true → s.cfg.payloadCap < s.ibufLen.toNat →
      exec (.chunkNew t) s = .next { s with
        err := 0x82#8, busy := false, faultLog := s.faultLog ++ [(s.cmd, .capacity)] }) ∧
    ((s.slot t).present = false →
      exec (.chunkNew t) s = .next { s with
        err := 0x81#8, busy := false, faultLog := s.faultLog ++ [(s.cmd, .emptyOperand)] })

/-- 43_chunk_record.md R161. -/
def Obligations.ChunkLengthReturnsLen : Prop :=
  decode 0x00000011#32 = .ok .chunkLength ∧ decode 0x00000111#32 = .error .slotNotUsed ∧
  ∀ s : State,
    (s.record.present = true →
      exec .chunkLength s = .next { s with res := s.record.len, err := 0x00#8, busy := false }) ∧
    (s.record.ok s.cfg.payloadCap → s.record.present = true → s.record.len.toNat = s.record.payload.length) ∧
    (s.record.present = false →
      exec .chunkLength s = .next { s with
        err := 0x81#8, busy := false, faultLog := s.faultLog ++ [(s.cmd, .emptyOperand)] })

/-- 43_chunk_record.md R162. -/
def Obligations.ChunkTypeCopiesTypeToSlot : Prop :=
  decode 0x00000012#32 = .ok (.chunkType .t0) ∧ decode 0x00000112#32 = .ok (.chunkType .t1) ∧
  ∀ (t : SlotIx) (s : State),
    (s.record.present = true →
      exec (.chunkType t) s = .next { s with
        tc0 := if t = .t0 then ⟨true, s.record.type⟩ else s.tc0,
        tc1 := if t = .t1 then ⟨true, s.record.type⟩ else s.tc1,
        err := 0x00#8, busy := false }) ∧
    (s.record.ok s.cfg.payloadCap → s.record.present = true → allLetters s.record.type = true) ∧
    (s.record.present = false →
      exec (.chunkType t) s = .next { s with
        err := 0x81#8, busy := false, faultLog := s.faultLog ++ [(s.cmd, .emptyOperand)] })

/-- 43_chunk_record.md R163: OBUF[0:LEN) holds the payload, every other OBUF byte is as before. -/
def Obligations.ChunkPayloadWritesPayload : Prop :=
  decode 0x00000013#32 = .ok .chunkPayload ∧ decode 0x00000113#32 = .error .slotNotUsed ∧
  ∀ s : State,
    (s.cfg.wf → s.record.ok s.cfg.payloadCap → s.record.present = true →
      ∃ m, exec .chunkPayload s = .next { s with
          obuf := m, obufLen := s.record.len.setWidth 64, err := 0x00#8, busy := false } ∧
        (∀ a, a < s.record.payload.length → m.read? a = s.record.payload[a]?) ∧
        (∀ a, s.record.payload.length ≤ a → m.read? a = s.obuf.read? a)) ∧
    (s.record.present = false →
      exec .chunkPayload s = .next { s with
        err := 0x81#8, busy := false, faultLog := s.faultLog ++ [(s.cmd, .emptyOperand)] })

/-- 43_chunk_record.md R164. -/
def Obligations.ChunkCrcReturnsCrc : Prop :=
  decode 0x00000014#32 = .ok .chunkCrc ∧ decode 0x00000114#32 = .error .slotNotUsed ∧
  ∀ s : State,
    (s.record.present = true → exec .chunkCrc s = .next { s with res := s.record.crc, err := 0x00#8, busy := false }) ∧
    (s.record.ok s.cfg.payloadCap → s.record.present = true →
      s.record.crc = crc32 (bytesOf s.record.type ++ s.record.payload)) ∧
    (s.record.present = false →
      exec .chunkCrc s = .next { s with
        err := 0x81#8, busy := false, faultLog := s.faultLog ++ [(s.cmd, .emptyOperand)] })

/-- 43_chunk_record.md R166. -/
def Obligations.ChunkPayloadTextChecksUtf8 : Prop :=
  decode 0x00000015#32 = .ok .chunkPayloadText ∧ decode 0x00000115#32 = .error .slotNotUsed ∧
  ∀ s : State,
    (s.cfg.wf → s.record.ok s.cfg.payloadCap → s.record.present = true → utf8Valid s.record.payload = true →
      ∃ m, exec .chunkPayloadText s = .next { s with
          obuf := m, obufLen := s.record.len.setWidth 64, err := 0x00#8, busy := false } ∧
        (∀ a, a < s.record.payload.length → m.read? a = s.record.payload[a]?) ∧
        (∀ a, s.record.payload.length ≤ a → m.read? a = s.obuf.read? a)) ∧
    (s.record.present = true → utf8Valid s.record.payload = false →
      exec .chunkPayloadText s = .next { s with err := 0x06#8, busy := false }) ∧
    (s.record.present = false →
      exec .chunkPayloadText s = .next { s with
        err := 0x81#8, busy := false, faultLog := s.faultLog ++ [(s.cmd, .emptyOperand)] })

/-- 43_chunk_record.md R167, R168: OBUF[0:12+LEN) holds the wire form, every other OBUF byte is as before. -/
def Obligations.ChunkEncodeWritesWireForm : Prop :=
  decode 0x00000016#32 = .ok .chunkEncode ∧ decode 0x00000116#32 = .error .slotNotUsed ∧
  ∀ s : State,
    (s.cfg.wf → s.record.ok s.cfg.payloadCap → s.record.present = true →
      let e := bytesOf (be32bytes s.record.len) ++ bytesOf s.record.type ++ s.record.payload ++ bytesOf (be32bytes s.record.crc)
      e.length = 12 + s.record.len.toNat ∧
      ∃ m, exec .chunkEncode s = .next { s with
          obuf := m, obufLen := s.record.len.setWidth 64 + 12#64, err := 0x00#8, busy := false } ∧
        (∀ a, a < e.length → m.read? a = e[a]?) ∧
        (∀ a, e.length ≤ a → m.read? a = s.obuf.read? a)) ∧
    (s.record.present = false →
      exec .chunkEncode s = .next { s with
        err := 0x81#8, busy := false, faultLog := s.faultLog ++ [(s.cmd, .emptyOperand)] })

/-- 43_chunk_record.md R169, R170, 60_exceptions.md R215: the ordered chain of checks on buf = IBUF[0:IBUF_LEN). The value
left in the hidden CRC_ACC is not stated. -/
def Obligations.ChunkDecodeRunsOrderedChecks : Prop :=
  decode 0x00000017#32 = .ok .chunkDecode ∧ decode 0x00000117#32 = .error .slotNotUsed ∧
  ∀ (s : State) (buf : List Byte), s.IbufIs buf →
    let n := (be32 (bytes4At buf 0)).toNat
    let type := bytes4At buf 4
    let payload := (buf.drop 8).take n
    let stored := be32 (bytes4At buf (8 + n))
    (buf.length < 12 → exec .chunkDecode s = .next { s with err := 0x03#8, busy := false }) ∧
    (12 ≤ buf.length → buf.length ≠ 12 + n → exec .chunkDecode s = .next { s with err := 0x04#8, busy := false }) ∧
    (12 ≤ buf.length → buf.length = 12 + n → allLetters type = false →
      exec .chunkDecode s = .next { s with err := 0x01#8, busy := false }) ∧
    (12 ≤ buf.length → buf.length = 12 + n → allLetters type = true → crc32 (bytesOf type ++ payload) ≠ stored →
      exec .chunkDecode s = .next { s with err := 0x05#8, busy := false }) ∧
    (12 ≤ buf.length → buf.length = 12 + n → allLetters type = true → crc32 (bytesOf type ++ payload) = stored →
      ∃ c, exec .chunkDecode s = .next { s with
        record := ⟨true, be32 (bytes4At buf 0), type, payload, stored⟩, crcAcc := c, err := 0x00#8, busy := false })

/-- 43_chunk_record.md R170, corner cases: below 12 no IBUF byte is read, so nothing need be written; a length mismatch
needs only IBUF[0:4), and a type byte that is no letter only IBUF[0:8) (R169, steps 1 to 4). -/
def Obligations.ChunkDecodeReadsOnlyNamedBytes : Prop :=
  ∀ s : State,
    (s.ibufLen.toNat < 12 → exec .chunkDecode s = .next { s with err := 0x03#8, busy := false }) ∧
    (∀ b : Bytes4, 12 ≤ s.ibufLen.toNat → s.IbufHolds 0 b → s.ibufLen.toNat ≠ 12 + (be32 b).toNat →
      exec .chunkDecode s = .next { s with err := 0x04#8, busy := false }) ∧
    (∀ b t : Bytes4, s.IbufHolds 0 b → s.IbufHolds 4 t → s.ibufLen.toNat = 12 + (be32 b).toNat → allLetters t = false →
      exec .chunkDecode s = .next { s with err := 0x01#8, busy := false })

/-- 43_chunk_record.md R171: the text is the configuration function of REC, whatever its bytes. -/
def Obligations.ChunkRenderWritesRenderedText : Prop :=
  decode 0x00000018#32 = .ok .chunkRender ∧ decode 0x00000118#32 = .error .slotNotUsed ∧
  ∀ s : State,
    (s.cfg.wf → s.record.present = true →
      let d := renderBytes s.cfg.obufCap s.record
      d.length ≤ s.cfg.obufCap ∧
      ∃ m, exec .chunkRender s = .next { s with
          obuf := m, obufLen := BitVec.ofNat 64 d.length, err := 0x00#8, busy := false } ∧
        (∀ a, a < d.length → m.read? a = d[a]?) ∧
        (∀ a, d.length ≤ a → m.read? a = s.obuf.read? a)) ∧
    (s.record.present = false →
      exec .chunkRender s = .next { s with
        err := 0x81#8, busy := false, faultLog := s.faultLog ++ [(s.cmd, .emptyOperand)] })

/-- 30_encoding.md R88, 43_chunk_record.md R167, R169, 10_state.md R31: decode accepts exactly the wire forms of the records
that meet the record invariant, and gives back the record. -/
def Obligations.DecodeAcceptsExactlyWireForms : Prop :=
  ∀ (buf : List Byte) (r : Record),
    (decodeRecord buf).result = .ok r ↔
      r.present = true ∧ r.len.toNat = r.payload.length ∧ allLetters r.type = true ∧
        r.crc = crc32 (bytesOf r.type ++ r.payload) ∧ buf = encodeRecord r

/-- 43_chunk_record.md R172. -/
def Obligations.EncodeAfterDecodeGivesTheBuffer : Prop :=
  ∀ (s s1 : State) (buf : List Byte), s.cfg.wf → s.IbufIs buf →
    exec .chunkDecode s = .next s1 → s1.err = 0x00#8 →
    ∃ s2, exec .chunkEncode s1 = .next s2 ∧ s2.err = 0x00#8 ∧ s2.ObufIs buf

/-- 43_chunk_record.md R173. The copy of OBUF[0:OBUF_LEN) into IBUF gives a state s3 of the same block. -/
def Obligations.DecodeAfterEncodeGivesTheRecord : Prop :=
  ∀ (s : State) (t : SlotIx) (d : List Byte), s.cfg.wf → (s.slot t).present = true → allLetters (s.slot t).bytes = true →
    s.IbufIs d → d.length ≤ s.cfg.payloadCap →
    ∃ s1 s2 out, exec (.chunkNew t) s = .next s1 ∧ s1.err = 0x00#8 ∧ exec .chunkEncode s1 = .next s2 ∧ s2.err = 0x00#8 ∧ s2.ObufIs out ∧
      ∀ s3 : State, s3.cfg = s.cfg → s3.ibufLen = s2.obufLen → s3.IbufIs out →
        ∃ s4, exec .chunkDecode s3 = .next s4 ∧ s4.err = 0x00#8 ∧ s4.record.present = true ∧
          s4.record.type = (s.slot t).bytes ∧ s4.record.payload = d ∧
          s4.record.len = s1.record.len ∧ s4.record.crc = s1.record.crc

/-! ### What commands leave unchanged -/

/-- 20_memory.md R69, 10_state.md R24, R26: no command writes IBUF, IBUF_LEN or ARG; nor CMD, the parameters, or the host's
side of the state, which are the model's own fields (log 1, log 5). BUSY is 0 after it (30_encoding.md R95). -/
def Obligations.CommandsKeepTheirInputs : Prop :=
  ∀ (i : Instr) (s s' : State), exec i s = .next s' →
    s'.arg = s.arg ∧ s'.ibufLen = s.ibufLen ∧ (∀ a, s'.ibuf.read? a = s.ibuf.read? a) ∧
    s'.cmd = s.cmd ∧ s'.cfg = s.cfg ∧ s'.hostQ = s.hostQ ∧ s'.replies = s.replies ∧ s'.busy = false

/-- 10_state.md R28, R30, R32: only the constructing commands replace a slot or REC, as a whole, and no command clears a
PRESENT bit. -/
def Obligations.OnlyConstructorsReplaceValues : Prop :=
  ∀ (i : Instr) (s s' : State), exec i s = .next s' →
    (∀ u : SlotIx, s'.slot u = s.slot u ∨
      ((s'.slot u).present = true ∧ (i = .tcFromBytes u ∨ i = .tcFromText u ∨ i = .chunkType u))) ∧
    (s'.record = s.record ∨
      (s'.record.present = true ∧ ((∃ t, i = .chunkNew t) ∨ i = .chunkDecode)))

/-- 10_state.md R25, R27: only a successful scalar-result command writes RES, and only a successful byte-string-result command
writes OBUF_LEN and OBUF, below OBUF_LEN. -/
def Obligations.OnlyResultCommandsWriteResults : Prop :=
  ∀ (i : Instr) (s s' : State), s.cfg.wf → exec i s = .next s' →
    (s'.err ≠ 0x00#8 ∨ (i ≠ .tcEqual ∧ i ≠ .chunkLength ∧ i ≠ .chunkCrc ∧ i ≠ .crcCompute ∧
        ∀ t, i ≠ .tcBytes t ∧ i ≠ .tcIsCritical t ∧ i ≠ .tcIsPublic t ∧ i ≠ .tcIsReservedBitValid t ∧
          i ≠ .tcIsSafeToCopy t ∧ i ≠ .tcIsValid t) → s'.res = s.res) ∧
    (s'.err ≠ 0x00#8 ∨ (i ≠ .chunkPayload ∧ i ≠ .chunkPayloadText ∧ i ≠ .chunkEncode ∧ i ≠ .chunkRender ∧
        ∀ t, i ≠ .tcRender t) → s'.obufLen = s.obufLen ∧ ∀ a, s'.obuf.read? a = s.obuf.read? a) ∧
    (∀ a, s'.obufLen.toNat ≤ a → s'.obuf.read? a = s.obuf.read? a)

/-- 60_exceptions.md R210, 00_scope.md R11: a command that reports an error writes its code, clears BUSY and changes no other
state of the block. The fault log and the refused mark are the model's bookkeeping of 10_state.md R38 (log 8, log 10). -/
def Obligations.ErrorsChangeOnlyStatus : Prop :=
  ∀ (i : Instr) (s s' : State), exec i s = .next s' → s'.err ≠ 0x00#8 →
    s' = { s with
      err := s'.err, busy := false, faultLog := s'.faultLog, refusedMark := s'.refusedMark }

/-- 10_state.md R37: a command that reads an IBUF byte the host has not written since reset is a fault. That it is logged
once, and the command goes on with a free byte, is the model's choice (log 8). CHUNK_DECODE reads IBUF[0:4), then, with the
length fitting, IBUF[4:8), then, with four letters, the rest (43_chunk_record.md R169, steps 2 to 6). -/
def Obligations.UnwrittenReadsAreLogged : Prop :=
  ∀ s : State, s.ibufLen.toNat ≤ s.cfg.ibufCap → (∃ a, a < s.ibufLen.toNat ∧ s.ibuf.read? a = none) →
    (∀ t, ∃ s', exec (.tcFromText t) s = .next s' ∧ s'.faultLog = s.faultLog ++ [(s.cmd, .unwrittenIbuf)]) ∧
    (∃ s', exec .crcCompute s = .next s' ∧ s'.faultLog = s.faultLog ++ [(s.cmd, .unwrittenIbuf)]) ∧
    (∀ t, (s.slot t).present = true → s.ibufLen.toNat ≤ s.cfg.payloadCap →
      ∃ s', exec (.chunkNew t) s = .next s' ∧ s'.faultLog = s.faultLog ++ [(s.cmd, .unwrittenIbuf)]) ∧
    (12 ≤ s.ibufLen.toNat → (∃ a, a < 4 ∧ s.ibuf.read? a = none) →
      ∃ s', exec .chunkDecode s = .next s' ∧ s'.faultLog = s.faultLog ++ [(s.cmd, .unwrittenIbuf)]) ∧
    (∀ b : Bytes4, s.IbufHolds 0 b → s.ibufLen.toNat = 12 + (be32 b).toNat →
      (∃ a, 4 ≤ a ∧ a < 8 ∧ s.ibuf.read? a = none) →
      ∃ s', exec .chunkDecode s = .next s' ∧ s'.faultLog = s.faultLog ++ [(s.cmd, .unwrittenIbuf)]) ∧
    (∀ b t : Bytes4, s.IbufHolds 0 b → s.IbufHolds 4 t → s.ibufLen.toNat = 12 + (be32 b).toNat → allLetters t = true →
      (∃ a, 8 ≤ a ∧ a < s.ibufLen.toNat ∧ s.ibuf.read? a = none) →
      ∃ s', exec .chunkDecode s = .next s' ∧ s'.faultLog = s.faultLog ++ [(s.cmd, .unwrittenIbuf)])

/-! ### The functions -/

/-- 00_scope.md R10, 20_memory.md R59: be32 is the big-endian value, and be32bytes its inverse. -/
def Obligations.BigEndianPacking : Prop :=
  (∀ b : Bytes4, (be32 b).toNat = b.b0.toNat * 2 ^ 24 + b.b1.toNat * 2 ^ 16 + b.b2.toNat * 2 ^ 8 + b.b3.toNat) ∧
  (∀ b : Bytes4, be32bytes (be32 b) = b) ∧ (∀ v : Word, be32 (be32bytes v) = v)

/-- 00_scope.md R12. -/
def Obligations.LetterClasses : Prop :=
  ∀ b : Byte,
    (upper b = true ↔ 0x41 ≤ b.toNat ∧ b.toNat ≤ 0x5A) ∧
    (lower b = true ↔ 0x61 ≤ b.toNat ∧ b.toNat ≤ 0x7A) ∧
    (letter b = true ↔ upper b = true ∨ lower b = true)

/-- 41_typecode.md R102: a string is well-formed exactly when it splits into sequences that each match one row of the
table, and its count of scalar values is their number. -/
def Obligations.Utf8SplitsByTheTable : Prop :=
  ∀ s : List Byte,
    (utf8Valid s = true ↔
      ∃ qs : List (List Byte), qs.flatten = s ∧ ∀ q ∈ qs, ∃ row ∈ utf8Table, utf8RowMatches row q) ∧
    (∀ qs : List (List Byte), qs.flatten = s → (∀ q ∈ qs, ∃ row ∈ utf8Table, utf8RowMatches row q) → utf8Count s = qs.length)

/-! ### The whole machine -/

/-- 70_reset_and_hazards.md R240, 10_state.md R40: what a reset leaves, whatever the state, BUSY = 1 included. -/
def Obligations.ResetLeavesResetValues : Prop :=
  ∀ (s : State) (rest : List HostOp), s.hostQ = .reset :: rest →
    ∃ s', step s = .next s' ∧ s'.cmd = 0x00000000#32 ∧ s'.err = 0x00#8 ∧ s'.busy = false ∧
      s'.arg = 0x00000000#32 ∧ s'.res = 0x00000000#32 ∧ s'.ibufLen = 0#64 ∧ s'.obufLen = 0#64 ∧
      s'.tc0.present = false ∧ s'.tc1.present = false ∧ s'.record.present = false ∧
      (∀ a, s'.ibuf.read? a = none) ∧ s'.faultLog = [] ∧ s'.refusedMark = false ∧
      s'.cfg = s.cfg ∧ s'.hostQ = rest

/-- 70_reset_and_hazards.md R242: CRC_COMPUTE right after reset gives RES = 0, and CHUNK_DECODE gives TooShort. -/
def Obligations.CommandsRightAfterReset : Prop :=
  ∀ p : Config.Params,
    (∃ s', step ((State.resetWith p).withFetchWord 32 0x00000020) = .next s' ∧ s'.res = 0x00000000#32 ∧ s'.err = 0x00#8) ∧
    (∃ s', step ((State.resetWith p).withFetchWord 32 0x00000017) = .next s' ∧ s'.err = 0x03#8 ∧
      s'.record.present = false)

/-- The invariant of the block holds after reset (10_state.md R40). -/
def Obligations.ResetMeetsTheInvariant : Prop :=
  (∀ p : Config.Params, p.wf → (State.resetWith p).Inv) ∧ State.reset.Inv ∧ State.reset.Clean

/-- 10_state.md R21, R29, R31, 60_exceptions.md R211, 70_reset_and_hazards.md R247: every step keeps the invariant. -/
def Obligations.EveryStepKeepsTheInvariant : Prop :=
  ∀ s s' : State, s.Inv → step s = .next s' → s'.Inv

/-- Every step keeps both buffers in canonical form, from every state. -/
def Obligations.EveryStepKeepsMemoryCanonical : Prop :=
  ∀ s s' : State, s.ibuf.wf → s.obuf.wf → step s = .next s' → s'.ibuf.wf ∧ s'.obuf.wf

/-- 70_reset_and_hazards.md R245, 20_memory.md R50 to R56: from a state that keeps the invariant, a lawful host action, and
no action at all, never stops the machine. That it goes on after an unwritten read, after a read of OBUF at or beyond
OBUF_LEN and after ill-formed text is the model's choice (log 8, log 9, log 10). -/
def Obligations.LawfulStepsGoOn : Prop :=
  ∀ s : State, s.Inv → (∀ op rest, s.hostQ = op :: rest → lawful s op) → ∃ s', step s = .next s'

/-- 20_memory.md R52, R54, R55, R56, 10_state.md R38: an unlawful host action is refused, and the refusal carries the state
with the action consumed and the refused mark set. That the model stops there is its choice (log 12). -/
def Obligations.UnlawfulActionsAreRefused : Prop :=
  ∀ (s : State) (op : HostOp) (rest : List HostOp), s.busy = false → s.hostQ = op :: rest → ¬ lawful s op →
    ∃ r, step s = .refused r ∧ refusalCarries r { s with hostQ := rest, refusedMark := true }

/-- 10_state.md R38: the fault log only grows and the refused mark is never cleared, but by a reset. -/
def Obligations.FaultLogOnlyGrows : Prop :=
  ∀ s s' : State, step s = .next s' → (∀ rest, s.hostQ ≠ .reset :: rest) →
    (∃ l, s'.faultLog = s.faultLog ++ l) ∧ (s.refusedMark = true → s'.refusedMark = true)

/-- 10_state.md R39, 42_crc_generator.md R149: the hidden state is never observed. Two states that differ only in CRC_ACC and
the step index step alike: to next states that again differ only in them, to the same fault, or to refusals of one name
whose states differ only in them. -/
def Obligations.HiddenStateIsNeverObserved : Prop :=
  ∀ s t : State, sameButHidden s t →
    (∀ s', step s = .next s' → ∃ t', step t = .next t' ∧ sameButHidden s' t') ∧
    (∀ r, step s = .fault r → step t = .fault r) ∧
    (∀ r, step s = .refused r → ∃ r', step t = .refused r' ∧ refusalsAlike r r')

/-- 70_reset_and_hazards.md R241: an idle block with no host action waits. A block that shows BUSY = 1 completes its command
(R245), which leaves BUSY = 0; that it does so in a step of its own is the model's choice (log 6). -/
def Obligations.EngineWaitsOrCompletes : Prop :=
  (∀ s : State, s.hostQ = [] → s.busy = false → step s = .next s) ∧
  (∀ s : State, s.hostQ = [] → s.busy = true → { s with busy := false }.Inv → ∃ s', step s = .next s' ∧ s'.busy = false)

/-! ### The host's accesses -/

/-- 20_memory.md R51, R63: while BUSY = 0 a read of a register returns it whole, and changes nothing in the block. -/
def Obligations.RegisterReadsReturnTheRegister : Prop :=
  ∀ (s : State) (rest : List HostOp), s.busy = false →
    (s.hostQ = .readReg 0x00 .w32 :: rest → step s = .next { s with hostQ := rest, replies := s.replies ++ [.word s.cmd] }) ∧
    (s.hostQ = .readReg 0x04 .w32 :: rest →
      ∃ v : Word, step s = .next { s with hostQ := rest, replies := s.replies ++ [.word v] } ∧
        v.extractLsb' 0 8 = s.err ∧ v.extractLsb' 8 1 = 0#1 ∧ v.extractLsb' 9 23 = 0#23) ∧
    (s.hostQ = .readReg 0x08 .w32 :: rest → step s = .next { s with hostQ := rest, replies := s.replies ++ [.word s.arg] }) ∧
    (s.hostQ = .readReg 0x0C .w32 :: rest → step s = .next { s with hostQ := rest, replies := s.replies ++ [.word s.res] }) ∧
    (s.hostQ = .readReg 0x10 .w64 :: rest →
      step s = .next { s with hostQ := rest, replies := s.replies ++ [.dword s.ibufLen] }) ∧
    (s.hostQ = .readReg 0x18 .w64 :: rest →
      step s = .next { s with hostQ := rest, replies := s.replies ++ [.dword s.obufLen] })

/-- 20_memory.md R51, R54, R63: writes to ARG and IBUF_LEN while BUSY = 0, and the ignored writes to STATUS, RES and
OBUF_LEN (while BUSY = 1 too: log 20). The queue of host actions is the model's own (log 5). -/
def Obligations.RegisterWritesWriteOrAreIgnored : Prop :=
  ∀ (s : State) (rest : List HostOp),
    (∀ v, s.busy = false → s.hostQ = .writeReg 0x08 (.w32 v) :: rest → step s = .next { s with hostQ := rest, arg := v }) ∧
    (∀ v, s.busy = false → s.hostQ = .writeReg 0x10 (.w64 v) :: rest → v.toNat ≤ s.cfg.ibufCap →
      step s = .next { s with hostQ := rest, ibufLen := v }) ∧
    (∀ v, s.hostQ = .writeReg 0x04 (.w32 v) :: rest → step s = .next { s with hostQ := rest }) ∧
    (∀ v, s.hostQ = .writeReg 0x0C (.w32 v) :: rest → step s = .next { s with hostQ := rest }) ∧
    (∀ v, s.hostQ = .writeReg 0x18 (.w64 v) :: rest → step s = .next { s with hostQ := rest })

/-- 20_memory.md R50, R55: HostWriteIBUF writes one byte, adds its address to W_IBUF, and changes nothing else. -/
def Obligations.IbufWriteWritesOneByte : Prop :=
  ∀ (s : State) (a : Nat) (b : Byte) (rest : List HostOp), s.busy = false → s.hostQ = .writeIbuf a b :: rest →
    a < s.cfg.ibufCap →
    ∃ m, step s = .next { s with hostQ := rest, ibuf := m } ∧ m.read? a = some b ∧
      ∀ x, x ≠ a → m.read? x = s.ibuf.read? x

/-- 20_memory.md R56: below OBUF_LEN the byte that the last byte-string-result command wrote, at or beyond it a fault, which
is logged. That the model goes on there with a free byte is its choice (log 9), and so are the entry's command word, the
one in CMD (log 22), and when the free byte is renewed (log 13). -/
def Obligations.ObufReadReturnsTheByte : Prop :=
  ∀ (s : State) (a : Nat) (rest : List HostOp), s.busy = false → s.hostQ = .readObuf a :: rest → a < s.cfg.obufCap →
    (∀ b, a < s.obufLen.toNat → s.obuf.read? a = some b →
      step s = .next { s with hostQ := rest, replies := s.replies ++ [.byte b] }) ∧
    (s.obufLen.toNat ≤ a →
      ∃ b, step s = .next { s with
        hostQ := rest, replies := s.replies ++ [.byte b], faultLog := s.faultLog ++ [(s.cmd, .obufBeyondLen)] })

/-- 70_reset_and_hazards.md R243: while BUSY = 1 a write of CMD, ARG, IBUF_LEN or an IBUF byte is refused. -/
def Obligations.WritesWhileBusyAreRefused : Prop :=
  ∀ (s : State) (op : HostOp) (rest : List HostOp), s.busy = true → s.hostQ = op :: rest →
    ((∃ v, op = .writeReg 0x00 (.w32 v)) ∨ (∃ v, op = .writeReg 0x08 (.w32 v)) ∨
      (∃ v : Dword, v.toNat ≤ s.cfg.ibufCap ∧ op = .writeReg 0x10 (.w64 v)) ∨ (∃ a b, a < s.cfg.ibufCap ∧ op = .writeIbuf a b)) →
    step s = .refused (.writeWhileBusy { s with hostQ := rest, refusedMark := true })

/-- 70_reset_and_hazards.md R243, R244, 20_memory.md R71 (H1): while BUSY = 1 the host may read STATUS, CMD, ARG and IBUF_LEN; a
read of RES, OBUF_LEN or OBUF is refused, which the model marks, and returns a free value, renewed by the read (log 11,
log 13). That an OBUF read at or beyond OBUF_LEN, which 20_memory.md R56 makes a fault, is such a refusal here and logs no
fault is the model's choice (log 26). The queue and the replies are the model's own (log 5). -/
def Obligations.ReadsWhileBusy : Prop :=
  ∀ (s : State) (rest : List HostOp), s.busy = true →
    (s.hostQ = .readReg 0x00 .w32 :: rest → step s = .next { s with hostQ := rest, replies := s.replies ++ [.word s.cmd] }) ∧
    (s.hostQ = .readReg 0x04 .w32 :: rest →
      ∃ v : Word, step s = .next { s with hostQ := rest, replies := s.replies ++ [.word v] } ∧ v.extractLsb' 8 1 = 1#1) ∧
    (s.hostQ = .readReg 0x08 .w32 :: rest → step s = .next { s with hostQ := rest, replies := s.replies ++ [.word s.arg] }) ∧
    (s.hostQ = .readReg 0x10 .w64 :: rest →
      step s = .next { s with hostQ := rest, replies := s.replies ++ [.dword s.ibufLen] }) ∧
    (s.hostQ = .readReg 0x0C .w32 :: rest ∨ s.hostQ = .readReg 0x18 .w64 :: rest ∨
        (∃ a, a < s.cfg.obufCap ∧ s.hostQ = .readObuf a :: rest) →
      ∃ v, step s = .next { s with
        hostQ := rest, replies := s.replies ++ [v], refusedMark := true, draws := s.draws + 1 })

/-- 20_memory.md R63: reads are idempotent. On an idle block two reads of one register or OBUF byte return the same value,
whatever lawful actions stand between them that start no command, do not reset, and do not write the register that is read;
an OBUF address at or beyond OBUF_LEN is covered. The queue and the replies are the model's own (log 5), and so is the free
byte (log 9, log 13). -/
def Obligations.ReadsAreIdempotent : Prop :=
  ∀ (s : State) (read : HostOp) (ops rest : List HostOp), s.busy = false → isRead read → lawful s read →
    (∀ op ∈ ops, quiet op ∧ lawful s op ∧ ¬ overwrites op read) → s.hostQ = read :: (ops ++ read :: rest) →
    ∃ s1 s2 s3 v, step s = .next s1 ∧ Host.Core.run Sys2Proof.core ops.length s1 = .next s2 ∧ step s2 = .next s3 ∧
      s1.replies = s.replies ++ [v] ∧ s3.replies = s2.replies ++ [v]
end

