-- ==== Sys2Proof/Laws/State.lean ====
section
/-! SUPPORT. What each update of the state does to each field. -/

namespace Sys2Proof.Machine

/-! ### setRes -/

@[simp] theorem State.setRes_cfg (s : State) (v : Word) : (s.setRes v).cfg = s.cfg := rfl
@[simp] theorem State.setRes_cmd (s : State) (v : Word) : (s.setRes v).cmd = s.cmd := rfl
@[simp] theorem State.setRes_err (s : State) (v : Word) : (s.setRes v).err = s.err := rfl
@[simp] theorem State.setRes_busy (s : State) (v : Word) : (s.setRes v).busy = s.busy := rfl
@[simp] theorem State.setRes_arg (s : State) (v : Word) : (s.setRes v).arg = s.arg := rfl
@[simp] theorem State.setRes_res (s : State) (v : Word) : (s.setRes v).res = v := rfl
@[simp] theorem State.setRes_ibufLen (s : State) (v : Word) : (s.setRes v).ibufLen = s.ibufLen := rfl
@[simp] theorem State.setRes_obufLen (s : State) (v : Word) : (s.setRes v).obufLen = s.obufLen := rfl
@[simp] theorem State.setRes_ibuf (s : State) (v : Word) : (s.setRes v).ibuf = s.ibuf := rfl
@[simp] theorem State.setRes_obuf (s : State) (v : Word) : (s.setRes v).obuf = s.obuf := rfl
@[simp] theorem State.setRes_tc0 (s : State) (v : Word) : (s.setRes v).tc0 = s.tc0 := rfl
@[simp] theorem State.setRes_tc1 (s : State) (v : Word) : (s.setRes v).tc1 = s.tc1 := rfl
@[simp] theorem State.setRes_record (s : State) (v : Word) : (s.setRes v).record = s.record := rfl
@[simp] theorem State.setRes_crcAcc (s : State) (v : Word) : (s.setRes v).crcAcc = s.crcAcc := rfl
@[simp] theorem State.setRes_stepIndex (s : State) (v : Word) : (s.setRes v).stepIndex = s.stepIndex := rfl
@[simp] theorem State.setRes_faultLog (s : State) (v : Word) : (s.setRes v).faultLog = s.faultLog := rfl
@[simp] theorem State.setRes_refusedMark (s : State) (v : Word) : (s.setRes v).refusedMark = s.refusedMark := rfl
@[simp] theorem State.setRes_hostQ (s : State) (v : Word) : (s.setRes v).hostQ = s.hostQ := rfl
@[simp] theorem State.setRes_replies (s : State) (v : Word) : (s.setRes v).replies = s.replies := rfl
@[simp] theorem State.setRes_draws (s : State) (v : Word) : (s.setRes v).draws = s.draws := rfl

/-! ### setRecord -/

@[simp] theorem State.setRecord_cfg (s : State) (r : Record) : (s.setRecord r).cfg = s.cfg := rfl
@[simp] theorem State.setRecord_cmd (s : State) (r : Record) : (s.setRecord r).cmd = s.cmd := rfl
@[simp] theorem State.setRecord_err (s : State) (r : Record) : (s.setRecord r).err = s.err := rfl
@[simp] theorem State.setRecord_busy (s : State) (r : Record) : (s.setRecord r).busy = s.busy := rfl
@[simp] theorem State.setRecord_arg (s : State) (r : Record) : (s.setRecord r).arg = s.arg := rfl
@[simp] theorem State.setRecord_res (s : State) (r : Record) : (s.setRecord r).res = s.res := rfl
@[simp] theorem State.setRecord_ibufLen (s : State) (r : Record) : (s.setRecord r).ibufLen = s.ibufLen := rfl
@[simp] theorem State.setRecord_obufLen (s : State) (r : Record) : (s.setRecord r).obufLen = s.obufLen := rfl
@[simp] theorem State.setRecord_ibuf (s : State) (r : Record) : (s.setRecord r).ibuf = s.ibuf := rfl
@[simp] theorem State.setRecord_obuf (s : State) (r : Record) : (s.setRecord r).obuf = s.obuf := rfl
@[simp] theorem State.setRecord_tc0 (s : State) (r : Record) : (s.setRecord r).tc0 = s.tc0 := rfl
@[simp] theorem State.setRecord_tc1 (s : State) (r : Record) : (s.setRecord r).tc1 = s.tc1 := rfl
@[simp] theorem State.setRecord_record (s : State) (r : Record) : (s.setRecord r).record = r := rfl
@[simp] theorem State.setRecord_crcAcc (s : State) (r : Record) : (s.setRecord r).crcAcc = s.crcAcc := rfl
@[simp] theorem State.setRecord_stepIndex (s : State) (r : Record) : (s.setRecord r).stepIndex = s.stepIndex := rfl
@[simp] theorem State.setRecord_faultLog (s : State) (r : Record) : (s.setRecord r).faultLog = s.faultLog := rfl
@[simp] theorem State.setRecord_refusedMark (s : State) (r : Record) : (s.setRecord r).refusedMark = s.refusedMark := rfl
@[simp] theorem State.setRecord_hostQ (s : State) (r : Record) : (s.setRecord r).hostQ = s.hostQ := rfl
@[simp] theorem State.setRecord_replies (s : State) (r : Record) : (s.setRecord r).replies = s.replies := rfl
@[simp] theorem State.setRecord_draws (s : State) (r : Record) : (s.setRecord r).draws = s.draws := rfl

/-! ### storeObuf -/

@[simp] theorem State.storeObuf_cfg (s : State) (n : Nat) (bs : List Byte) : (s.storeObuf n bs).cfg = s.cfg := rfl
@[simp] theorem State.storeObuf_cmd (s : State) (n : Nat) (bs : List Byte) : (s.storeObuf n bs).cmd = s.cmd := rfl
@[simp] theorem State.storeObuf_err (s : State) (n : Nat) (bs : List Byte) : (s.storeObuf n bs).err = s.err := rfl
@[simp] theorem State.storeObuf_busy (s : State) (n : Nat) (bs : List Byte) : (s.storeObuf n bs).busy = s.busy := rfl
@[simp] theorem State.storeObuf_arg (s : State) (n : Nat) (bs : List Byte) : (s.storeObuf n bs).arg = s.arg := rfl
@[simp] theorem State.storeObuf_res (s : State) (n : Nat) (bs : List Byte) : (s.storeObuf n bs).res = s.res := rfl
@[simp] theorem State.storeObuf_ibufLen (s : State) (n : Nat) (bs : List Byte) : (s.storeObuf n bs).ibufLen = s.ibufLen := rfl
@[simp] theorem State.storeObuf_obufLen (s : State) (n : Nat) (bs : List Byte) : (s.storeObuf n bs).obufLen = BitVec.ofNat 64 n := rfl
@[simp] theorem State.storeObuf_ibuf (s : State) (n : Nat) (bs : List Byte) : (s.storeObuf n bs).ibuf = s.ibuf := rfl
@[simp] theorem State.storeObuf_obuf (s : State) (n : Nat) (bs : List Byte) : (s.storeObuf n bs).obuf = s.obuf.writeBytes 0 (bs.take n) := rfl
@[simp] theorem State.storeObuf_tc0 (s : State) (n : Nat) (bs : List Byte) : (s.storeObuf n bs).tc0 = s.tc0 := rfl
@[simp] theorem State.storeObuf_tc1 (s : State) (n : Nat) (bs : List Byte) : (s.storeObuf n bs).tc1 = s.tc1 := rfl
@[simp] theorem State.storeObuf_record (s : State) (n : Nat) (bs : List Byte) : (s.storeObuf n bs).record = s.record := rfl
@[simp] theorem State.storeObuf_crcAcc (s : State) (n : Nat) (bs : List Byte) : (s.storeObuf n bs).crcAcc = s.crcAcc := rfl
@[simp] theorem State.storeObuf_stepIndex (s : State) (n : Nat) (bs : List Byte) : (s.storeObuf n bs).stepIndex = s.stepIndex := rfl
@[simp] theorem State.storeObuf_faultLog (s : State) (n : Nat) (bs : List Byte) : (s.storeObuf n bs).faultLog = s.faultLog := rfl
@[simp] theorem State.storeObuf_refusedMark (s : State) (n : Nat) (bs : List Byte) : (s.storeObuf n bs).refusedMark = s.refusedMark := rfl
@[simp] theorem State.storeObuf_hostQ (s : State) (n : Nat) (bs : List Byte) : (s.storeObuf n bs).hostQ = s.hostQ := rfl
@[simp] theorem State.storeObuf_replies (s : State) (n : Nat) (bs : List Byte) : (s.storeObuf n bs).replies = s.replies := rfl
@[simp] theorem State.storeObuf_draws (s : State) (n : Nat) (bs : List Byte) : (s.storeObuf n bs).draws = s.draws := rfl

/-! ### setCrcAcc -/

@[simp] theorem State.setCrcAcc_cfg (s : State) (c : Word) : (s.setCrcAcc c).cfg = s.cfg := rfl
@[simp] theorem State.setCrcAcc_cmd (s : State) (c : Word) : (s.setCrcAcc c).cmd = s.cmd := rfl
@[simp] theorem State.setCrcAcc_err (s : State) (c : Word) : (s.setCrcAcc c).err = s.err := rfl
@[simp] theorem State.setCrcAcc_busy (s : State) (c : Word) : (s.setCrcAcc c).busy = s.busy := rfl
@[simp] theorem State.setCrcAcc_arg (s : State) (c : Word) : (s.setCrcAcc c).arg = s.arg := rfl
@[simp] theorem State.setCrcAcc_res (s : State) (c : Word) : (s.setCrcAcc c).res = s.res := rfl
@[simp] theorem State.setCrcAcc_ibufLen (s : State) (c : Word) : (s.setCrcAcc c).ibufLen = s.ibufLen := rfl
@[simp] theorem State.setCrcAcc_obufLen (s : State) (c : Word) : (s.setCrcAcc c).obufLen = s.obufLen := rfl
@[simp] theorem State.setCrcAcc_ibuf (s : State) (c : Word) : (s.setCrcAcc c).ibuf = s.ibuf := rfl
@[simp] theorem State.setCrcAcc_obuf (s : State) (c : Word) : (s.setCrcAcc c).obuf = s.obuf := rfl
@[simp] theorem State.setCrcAcc_tc0 (s : State) (c : Word) : (s.setCrcAcc c).tc0 = s.tc0 := rfl
@[simp] theorem State.setCrcAcc_tc1 (s : State) (c : Word) : (s.setCrcAcc c).tc1 = s.tc1 := rfl
@[simp] theorem State.setCrcAcc_record (s : State) (c : Word) : (s.setCrcAcc c).record = s.record := rfl
@[simp] theorem State.setCrcAcc_crcAcc (s : State) (c : Word) : (s.setCrcAcc c).crcAcc = c := rfl
@[simp] theorem State.setCrcAcc_stepIndex (s : State) (c : Word) : (s.setCrcAcc c).stepIndex = s.stepIndex := rfl
@[simp] theorem State.setCrcAcc_faultLog (s : State) (c : Word) : (s.setCrcAcc c).faultLog = s.faultLog := rfl
@[simp] theorem State.setCrcAcc_refusedMark (s : State) (c : Word) : (s.setCrcAcc c).refusedMark = s.refusedMark := rfl
@[simp] theorem State.setCrcAcc_hostQ (s : State) (c : Word) : (s.setCrcAcc c).hostQ = s.hostQ := rfl
@[simp] theorem State.setCrcAcc_replies (s : State) (c : Word) : (s.setCrcAcc c).replies = s.replies := rfl
@[simp] theorem State.setCrcAcc_draws (s : State) (c : Word) : (s.setCrcAcc c).draws = s.draws := rfl

/-! ### logFault -/

@[simp] theorem State.logFault_cfg (s : State) (f : UsageFault) : (s.logFault f).cfg = s.cfg := rfl
@[simp] theorem State.logFault_cmd (s : State) (f : UsageFault) : (s.logFault f).cmd = s.cmd := rfl
@[simp] theorem State.logFault_err (s : State) (f : UsageFault) : (s.logFault f).err = s.err := rfl
@[simp] theorem State.logFault_busy (s : State) (f : UsageFault) : (s.logFault f).busy = s.busy := rfl
@[simp] theorem State.logFault_arg (s : State) (f : UsageFault) : (s.logFault f).arg = s.arg := rfl
@[simp] theorem State.logFault_res (s : State) (f : UsageFault) : (s.logFault f).res = s.res := rfl
@[simp] theorem State.logFault_ibufLen (s : State) (f : UsageFault) : (s.logFault f).ibufLen = s.ibufLen := rfl
@[simp] theorem State.logFault_obufLen (s : State) (f : UsageFault) : (s.logFault f).obufLen = s.obufLen := rfl
@[simp] theorem State.logFault_ibuf (s : State) (f : UsageFault) : (s.logFault f).ibuf = s.ibuf := rfl
@[simp] theorem State.logFault_obuf (s : State) (f : UsageFault) : (s.logFault f).obuf = s.obuf := rfl
@[simp] theorem State.logFault_tc0 (s : State) (f : UsageFault) : (s.logFault f).tc0 = s.tc0 := rfl
@[simp] theorem State.logFault_tc1 (s : State) (f : UsageFault) : (s.logFault f).tc1 = s.tc1 := rfl
@[simp] theorem State.logFault_record (s : State) (f : UsageFault) : (s.logFault f).record = s.record := rfl
@[simp] theorem State.logFault_crcAcc (s : State) (f : UsageFault) : (s.logFault f).crcAcc = s.crcAcc := rfl
@[simp] theorem State.logFault_stepIndex (s : State) (f : UsageFault) : (s.logFault f).stepIndex = s.stepIndex := rfl
@[simp] theorem State.logFault_faultLog (s : State) (f : UsageFault) : (s.logFault f).faultLog = s.faultLog ++ [(s.cmd, f)] := rfl
@[simp] theorem State.logFault_refusedMark (s : State) (f : UsageFault) : (s.logFault f).refusedMark = s.refusedMark := rfl
@[simp] theorem State.logFault_hostQ (s : State) (f : UsageFault) : (s.logFault f).hostQ = s.hostQ := rfl
@[simp] theorem State.logFault_replies (s : State) (f : UsageFault) : (s.logFault f).replies = s.replies := rfl
@[simp] theorem State.logFault_draws (s : State) (f : UsageFault) : (s.logFault f).draws = s.draws := rfl

/-! ### markRefused -/

@[simp] theorem State.markRefused_cfg (s : State) : (s.markRefused).cfg = s.cfg := rfl
@[simp] theorem State.markRefused_cmd (s : State) : (s.markRefused).cmd = s.cmd := rfl
@[simp] theorem State.markRefused_err (s : State) : (s.markRefused).err = s.err := rfl
@[simp] theorem State.markRefused_busy (s : State) : (s.markRefused).busy = s.busy := rfl
@[simp] theorem State.markRefused_arg (s : State) : (s.markRefused).arg = s.arg := rfl
@[simp] theorem State.markRefused_res (s : State) : (s.markRefused).res = s.res := rfl
@[simp] theorem State.markRefused_ibufLen (s : State) : (s.markRefused).ibufLen = s.ibufLen := rfl
@[simp] theorem State.markRefused_obufLen (s : State) : (s.markRefused).obufLen = s.obufLen := rfl
@[simp] theorem State.markRefused_ibuf (s : State) : (s.markRefused).ibuf = s.ibuf := rfl
@[simp] theorem State.markRefused_obuf (s : State) : (s.markRefused).obuf = s.obuf := rfl
@[simp] theorem State.markRefused_tc0 (s : State) : (s.markRefused).tc0 = s.tc0 := rfl
@[simp] theorem State.markRefused_tc1 (s : State) : (s.markRefused).tc1 = s.tc1 := rfl
@[simp] theorem State.markRefused_record (s : State) : (s.markRefused).record = s.record := rfl
@[simp] theorem State.markRefused_crcAcc (s : State) : (s.markRefused).crcAcc = s.crcAcc := rfl
@[simp] theorem State.markRefused_stepIndex (s : State) : (s.markRefused).stepIndex = s.stepIndex := rfl
@[simp] theorem State.markRefused_faultLog (s : State) : (s.markRefused).faultLog = s.faultLog := rfl
@[simp] theorem State.markRefused_refusedMark (s : State) : (s.markRefused).refusedMark = true := rfl
@[simp] theorem State.markRefused_hostQ (s : State) : (s.markRefused).hostQ = s.hostQ := rfl
@[simp] theorem State.markRefused_replies (s : State) : (s.markRefused).replies = s.replies := rfl
@[simp] theorem State.markRefused_draws (s : State) : (s.markRefused).draws = s.draws := rfl

/-! ### drawOne -/

@[simp] theorem State.drawOne_cfg (s : State) : (s.drawOne).cfg = s.cfg := rfl
@[simp] theorem State.drawOne_cmd (s : State) : (s.drawOne).cmd = s.cmd := rfl
@[simp] theorem State.drawOne_err (s : State) : (s.drawOne).err = s.err := rfl
@[simp] theorem State.drawOne_busy (s : State) : (s.drawOne).busy = s.busy := rfl
@[simp] theorem State.drawOne_arg (s : State) : (s.drawOne).arg = s.arg := rfl
@[simp] theorem State.drawOne_res (s : State) : (s.drawOne).res = s.res := rfl
@[simp] theorem State.drawOne_ibufLen (s : State) : (s.drawOne).ibufLen = s.ibufLen := rfl
@[simp] theorem State.drawOne_obufLen (s : State) : (s.drawOne).obufLen = s.obufLen := rfl
@[simp] theorem State.drawOne_ibuf (s : State) : (s.drawOne).ibuf = s.ibuf := rfl
@[simp] theorem State.drawOne_obuf (s : State) : (s.drawOne).obuf = s.obuf := rfl
@[simp] theorem State.drawOne_tc0 (s : State) : (s.drawOne).tc0 = s.tc0 := rfl
@[simp] theorem State.drawOne_tc1 (s : State) : (s.drawOne).tc1 = s.tc1 := rfl
@[simp] theorem State.drawOne_record (s : State) : (s.drawOne).record = s.record := rfl
@[simp] theorem State.drawOne_crcAcc (s : State) : (s.drawOne).crcAcc = s.crcAcc := rfl
@[simp] theorem State.drawOne_stepIndex (s : State) : (s.drawOne).stepIndex = s.stepIndex := rfl
@[simp] theorem State.drawOne_faultLog (s : State) : (s.drawOne).faultLog = s.faultLog := rfl
@[simp] theorem State.drawOne_refusedMark (s : State) : (s.drawOne).refusedMark = s.refusedMark := rfl
@[simp] theorem State.drawOne_hostQ (s : State) : (s.drawOne).hostQ = s.hostQ := rfl
@[simp] theorem State.drawOne_replies (s : State) : (s.drawOne).replies = s.replies := rfl
@[simp] theorem State.drawOne_draws (s : State) : (s.drawOne).draws = s.draws + 1 := rfl

/-! ### complete -/

@[simp] theorem State.complete_cfg (s : State) (e : ErrCode) : (s.complete e).cfg = s.cfg := rfl
@[simp] theorem State.complete_cmd (s : State) (e : ErrCode) : (s.complete e).cmd = s.cmd := rfl
@[simp] theorem State.complete_err (s : State) (e : ErrCode) : (s.complete e).err = errByte e := rfl
@[simp] theorem State.complete_busy (s : State) (e : ErrCode) : (s.complete e).busy = false := rfl
@[simp] theorem State.complete_arg (s : State) (e : ErrCode) : (s.complete e).arg = s.arg := rfl
@[simp] theorem State.complete_res (s : State) (e : ErrCode) : (s.complete e).res = s.res := rfl
@[simp] theorem State.complete_ibufLen (s : State) (e : ErrCode) : (s.complete e).ibufLen = s.ibufLen := rfl
@[simp] theorem State.complete_obufLen (s : State) (e : ErrCode) : (s.complete e).obufLen = s.obufLen := rfl
@[simp] theorem State.complete_ibuf (s : State) (e : ErrCode) : (s.complete e).ibuf = s.ibuf := rfl
@[simp] theorem State.complete_obuf (s : State) (e : ErrCode) : (s.complete e).obuf = s.obuf := rfl
@[simp] theorem State.complete_tc0 (s : State) (e : ErrCode) : (s.complete e).tc0 = s.tc0 := rfl
@[simp] theorem State.complete_tc1 (s : State) (e : ErrCode) : (s.complete e).tc1 = s.tc1 := rfl
@[simp] theorem State.complete_record (s : State) (e : ErrCode) : (s.complete e).record = s.record := rfl
@[simp] theorem State.complete_crcAcc (s : State) (e : ErrCode) : (s.complete e).crcAcc = s.crcAcc := rfl
@[simp] theorem State.complete_stepIndex (s : State) (e : ErrCode) : (s.complete e).stepIndex = s.stepIndex := rfl
@[simp] theorem State.complete_faultLog (s : State) (e : ErrCode) : (s.complete e).faultLog = s.faultLog := rfl
@[simp] theorem State.complete_refusedMark (s : State) (e : ErrCode) : (s.complete e).refusedMark = s.refusedMark := rfl
@[simp] theorem State.complete_hostQ (s : State) (e : ErrCode) : (s.complete e).hostQ = s.hostQ := rfl
@[simp] theorem State.complete_replies (s : State) (e : ErrCode) : (s.complete e).replies = s.replies := rfl
@[simp] theorem State.complete_draws (s : State) (e : ErrCode) : (s.complete e).draws = s.draws := rfl

/-! ### latch -/

@[simp] theorem State.latch_cfg (s : State) (w : Word) : (s.latch w).cfg = s.cfg := rfl
@[simp] theorem State.latch_cmd (s : State) (w : Word) : (s.latch w).cmd = w := rfl
@[simp] theorem State.latch_err (s : State) (w : Word) : (s.latch w).err = s.err := rfl
@[simp] theorem State.latch_busy (s : State) (w : Word) : (s.latch w).busy = true := rfl
@[simp] theorem State.latch_arg (s : State) (w : Word) : (s.latch w).arg = s.arg := rfl
@[simp] theorem State.latch_res (s : State) (w : Word) : (s.latch w).res = s.res := rfl
@[simp] theorem State.latch_ibufLen (s : State) (w : Word) : (s.latch w).ibufLen = s.ibufLen := rfl
@[simp] theorem State.latch_obufLen (s : State) (w : Word) : (s.latch w).obufLen = s.obufLen := rfl
@[simp] theorem State.latch_ibuf (s : State) (w : Word) : (s.latch w).ibuf = s.ibuf := rfl
@[simp] theorem State.latch_obuf (s : State) (w : Word) : (s.latch w).obuf = s.obuf := rfl
@[simp] theorem State.latch_tc0 (s : State) (w : Word) : (s.latch w).tc0 = s.tc0 := rfl
@[simp] theorem State.latch_tc1 (s : State) (w : Word) : (s.latch w).tc1 = s.tc1 := rfl
@[simp] theorem State.latch_record (s : State) (w : Word) : (s.latch w).record = s.record := rfl
@[simp] theorem State.latch_crcAcc (s : State) (w : Word) : (s.latch w).crcAcc = s.crcAcc := rfl
@[simp] theorem State.latch_stepIndex (s : State) (w : Word) : (s.latch w).stepIndex = s.stepIndex := rfl
@[simp] theorem State.latch_faultLog (s : State) (w : Word) : (s.latch w).faultLog = s.faultLog := rfl
@[simp] theorem State.latch_refusedMark (s : State) (w : Word) : (s.latch w).refusedMark = s.refusedMark := rfl
@[simp] theorem State.latch_hostQ (s : State) (w : Word) : (s.latch w).hostQ = s.hostQ := rfl
@[simp] theorem State.latch_replies (s : State) (w : Word) : (s.latch w).replies = s.replies := rfl
@[simp] theorem State.latch_draws (s : State) (w : Word) : (s.latch w).draws = s.draws + 1 := rfl

/-! ### reply -/

@[simp] theorem State.reply_cfg (s : State) (r : Reply) : (s.reply r).cfg = s.cfg := rfl
@[simp] theorem State.reply_cmd (s : State) (r : Reply) : (s.reply r).cmd = s.cmd := rfl
@[simp] theorem State.reply_err (s : State) (r : Reply) : (s.reply r).err = s.err := rfl
@[simp] theorem State.reply_busy (s : State) (r : Reply) : (s.reply r).busy = s.busy := rfl
@[simp] theorem State.reply_arg (s : State) (r : Reply) : (s.reply r).arg = s.arg := rfl
@[simp] theorem State.reply_res (s : State) (r : Reply) : (s.reply r).res = s.res := rfl
@[simp] theorem State.reply_ibufLen (s : State) (r : Reply) : (s.reply r).ibufLen = s.ibufLen := rfl
@[simp] theorem State.reply_obufLen (s : State) (r : Reply) : (s.reply r).obufLen = s.obufLen := rfl
@[simp] theorem State.reply_ibuf (s : State) (r : Reply) : (s.reply r).ibuf = s.ibuf := rfl
@[simp] theorem State.reply_obuf (s : State) (r : Reply) : (s.reply r).obuf = s.obuf := rfl
@[simp] theorem State.reply_tc0 (s : State) (r : Reply) : (s.reply r).tc0 = s.tc0 := rfl
@[simp] theorem State.reply_tc1 (s : State) (r : Reply) : (s.reply r).tc1 = s.tc1 := rfl
@[simp] theorem State.reply_record (s : State) (r : Reply) : (s.reply r).record = s.record := rfl
@[simp] theorem State.reply_crcAcc (s : State) (r : Reply) : (s.reply r).crcAcc = s.crcAcc := rfl
@[simp] theorem State.reply_stepIndex (s : State) (r : Reply) : (s.reply r).stepIndex = s.stepIndex := rfl
@[simp] theorem State.reply_faultLog (s : State) (r : Reply) : (s.reply r).faultLog = s.faultLog := rfl
@[simp] theorem State.reply_refusedMark (s : State) (r : Reply) : (s.reply r).refusedMark = s.refusedMark := rfl
@[simp] theorem State.reply_hostQ (s : State) (r : Reply) : (s.reply r).hostQ = s.hostQ := rfl
@[simp] theorem State.reply_replies (s : State) (r : Reply) : (s.reply r).replies = s.replies ++ [r] := rfl
@[simp] theorem State.reply_draws (s : State) (r : Reply) : (s.reply r).draws = s.draws := rfl

/-! ### setSlot -/

@[simp] theorem State.setSlot_cfg (s : State) (t : SlotIx) (b : Bytes4) : (s.setSlot t b).cfg = s.cfg := by cases t <;> rfl
@[simp] theorem State.setSlot_cmd (s : State) (t : SlotIx) (b : Bytes4) : (s.setSlot t b).cmd = s.cmd := by cases t <;> rfl
@[simp] theorem State.setSlot_err (s : State) (t : SlotIx) (b : Bytes4) : (s.setSlot t b).err = s.err := by cases t <;> rfl
@[simp] theorem State.setSlot_busy (s : State) (t : SlotIx) (b : Bytes4) : (s.setSlot t b).busy = s.busy := by cases t <;> rfl
@[simp] theorem State.setSlot_arg (s : State) (t : SlotIx) (b : Bytes4) : (s.setSlot t b).arg = s.arg := by cases t <;> rfl
@[simp] theorem State.setSlot_res (s : State) (t : SlotIx) (b : Bytes4) : (s.setSlot t b).res = s.res := by cases t <;> rfl
@[simp] theorem State.setSlot_ibufLen (s : State) (t : SlotIx) (b : Bytes4) : (s.setSlot t b).ibufLen = s.ibufLen := by cases t <;> rfl
@[simp] theorem State.setSlot_obufLen (s : State) (t : SlotIx) (b : Bytes4) : (s.setSlot t b).obufLen = s.obufLen := by cases t <;> rfl
@[simp] theorem State.setSlot_ibuf (s : State) (t : SlotIx) (b : Bytes4) : (s.setSlot t b).ibuf = s.ibuf := by cases t <;> rfl
@[simp] theorem State.setSlot_obuf (s : State) (t : SlotIx) (b : Bytes4) : (s.setSlot t b).obuf = s.obuf := by cases t <;> rfl
@[simp] theorem State.setSlot_tc0 (s : State) (t : SlotIx) (b : Bytes4) :
    (s.setSlot t b).tc0 = if t = .t0 then { present := true, bytes := b } else s.tc0 := by cases t <;> rfl
@[simp] theorem State.setSlot_tc1 (s : State) (t : SlotIx) (b : Bytes4) :
    (s.setSlot t b).tc1 = if t = .t1 then { present := true, bytes := b } else s.tc1 := by cases t <;> rfl
@[simp] theorem State.setSlot_record (s : State) (t : SlotIx) (b : Bytes4) : (s.setSlot t b).record = s.record := by cases t <;> rfl
@[simp] theorem State.setSlot_crcAcc (s : State) (t : SlotIx) (b : Bytes4) : (s.setSlot t b).crcAcc = s.crcAcc := by cases t <;> rfl
@[simp] theorem State.setSlot_stepIndex (s : State) (t : SlotIx) (b : Bytes4) : (s.setSlot t b).stepIndex = s.stepIndex := by cases t <;> rfl
@[simp] theorem State.setSlot_faultLog (s : State) (t : SlotIx) (b : Bytes4) : (s.setSlot t b).faultLog = s.faultLog := by cases t <;> rfl
@[simp] theorem State.setSlot_refusedMark (s : State) (t : SlotIx) (b : Bytes4) : (s.setSlot t b).refusedMark = s.refusedMark := by cases t <;> rfl
@[simp] theorem State.setSlot_hostQ (s : State) (t : SlotIx) (b : Bytes4) : (s.setSlot t b).hostQ = s.hostQ := by cases t <;> rfl
@[simp] theorem State.setSlot_replies (s : State) (t : SlotIx) (b : Bytes4) : (s.setSlot t b).replies = s.replies := by cases t <;> rfl
@[simp] theorem State.setSlot_draws (s : State) (t : SlotIx) (b : Bytes4) : (s.setSlot t b).draws = s.draws := by cases t <;> rfl

/-! ### The slot that an update leaves -/

@[simp] theorem State.slot_t0 (s : State) : s.slot .t0 = s.tc0 := rfl
@[simp] theorem State.slot_t1 (s : State) : s.slot .t1 = s.tc1 := rfl

theorem State.setSlot_slot (s : State) (t u : SlotIx) (b : Bytes4) :
    (s.setSlot t b).slot u = if t = u then { present := true, bytes := b } else s.slot u := by
  cases t <;> cases u <;> rfl

/-! ### noteRead and noteRefused: bookkeeping only -/

@[simp] theorem State.noteRead_cfg (s : State) (n : Nat) : (s.noteRead n).cfg = s.cfg := by
  unfold State.noteRead; split <;> rfl
@[simp] theorem State.noteRead_cmd (s : State) (n : Nat) : (s.noteRead n).cmd = s.cmd := by
  unfold State.noteRead; split <;> rfl
@[simp] theorem State.noteRead_err (s : State) (n : Nat) : (s.noteRead n).err = s.err := by
  unfold State.noteRead; split <;> rfl
@[simp] theorem State.noteRead_busy (s : State) (n : Nat) : (s.noteRead n).busy = s.busy := by
  unfold State.noteRead; split <;> rfl
@[simp] theorem State.noteRead_arg (s : State) (n : Nat) : (s.noteRead n).arg = s.arg := by
  unfold State.noteRead; split <;> rfl
@[simp] theorem State.noteRead_res (s : State) (n : Nat) : (s.noteRead n).res = s.res := by
  unfold State.noteRead; split <;> rfl
@[simp] theorem State.noteRead_ibufLen (s : State) (n : Nat) : (s.noteRead n).ibufLen = s.ibufLen := by
  unfold State.noteRead; split <;> rfl
@[simp] theorem State.noteRead_obufLen (s : State) (n : Nat) : (s.noteRead n).obufLen = s.obufLen := by
  unfold State.noteRead; split <;> rfl
@[simp] theorem State.noteRead_ibuf (s : State) (n : Nat) : (s.noteRead n).ibuf = s.ibuf := by
  unfold State.noteRead; split <;> rfl
@[simp] theorem State.noteRead_obuf (s : State) (n : Nat) : (s.noteRead n).obuf = s.obuf := by
  unfold State.noteRead; split <;> rfl
@[simp] theorem State.noteRead_tc0 (s : State) (n : Nat) : (s.noteRead n).tc0 = s.tc0 := by
  unfold State.noteRead; split <;> rfl
@[simp] theorem State.noteRead_tc1 (s : State) (n : Nat) : (s.noteRead n).tc1 = s.tc1 := by
  unfold State.noteRead; split <;> rfl
@[simp] theorem State.noteRead_record (s : State) (n : Nat) : (s.noteRead n).record = s.record := by
  unfold State.noteRead; split <;> rfl
@[simp] theorem State.noteRead_crcAcc (s : State) (n : Nat) : (s.noteRead n).crcAcc = s.crcAcc := by
  unfold State.noteRead; split <;> rfl
@[simp] theorem State.noteRead_stepIndex (s : State) (n : Nat) : (s.noteRead n).stepIndex = s.stepIndex := by
  unfold State.noteRead; split <;> rfl
@[simp] theorem State.noteRead_refusedMark (s : State) (n : Nat) : (s.noteRead n).refusedMark = s.refusedMark := by
  unfold State.noteRead; split <;> rfl
@[simp] theorem State.noteRead_hostQ (s : State) (n : Nat) : (s.noteRead n).hostQ = s.hostQ := by
  unfold State.noteRead; split <;> rfl
@[simp] theorem State.noteRead_replies (s : State) (n : Nat) : (s.noteRead n).replies = s.replies := by
  unfold State.noteRead; split <;> rfl
@[simp] theorem State.noteRefused_cfg (s : State) (n : Nat) : (s.noteRefused n).cfg = s.cfg := by
  unfold State.noteRefused; split <;> rfl
@[simp] theorem State.noteRefused_cmd (s : State) (n : Nat) : (s.noteRefused n).cmd = s.cmd := by
  unfold State.noteRefused; split <;> rfl
@[simp] theorem State.noteRefused_err (s : State) (n : Nat) : (s.noteRefused n).err = s.err := by
  unfold State.noteRefused; split <;> rfl
@[simp] theorem State.noteRefused_busy (s : State) (n : Nat) : (s.noteRefused n).busy = s.busy := by
  unfold State.noteRefused; split <;> rfl
@[simp] theorem State.noteRefused_arg (s : State) (n : Nat) : (s.noteRefused n).arg = s.arg := by
  unfold State.noteRefused; split <;> rfl
@[simp] theorem State.noteRefused_res (s : State) (n : Nat) : (s.noteRefused n).res = s.res := by
  unfold State.noteRefused; split <;> rfl
@[simp] theorem State.noteRefused_ibufLen (s : State) (n : Nat) : (s.noteRefused n).ibufLen = s.ibufLen := by
  unfold State.noteRefused; split <;> rfl
@[simp] theorem State.noteRefused_obufLen (s : State) (n : Nat) : (s.noteRefused n).obufLen = s.obufLen := by
  unfold State.noteRefused; split <;> rfl
@[simp] theorem State.noteRefused_ibuf (s : State) (n : Nat) : (s.noteRefused n).ibuf = s.ibuf := by
  unfold State.noteRefused; split <;> rfl
@[simp] theorem State.noteRefused_obuf (s : State) (n : Nat) : (s.noteRefused n).obuf = s.obuf := by
  unfold State.noteRefused; split <;> rfl
@[simp] theorem State.noteRefused_tc0 (s : State) (n : Nat) : (s.noteRefused n).tc0 = s.tc0 := by
  unfold State.noteRefused; split <;> rfl
@[simp] theorem State.noteRefused_tc1 (s : State) (n : Nat) : (s.noteRefused n).tc1 = s.tc1 := by
  unfold State.noteRefused; split <;> rfl
@[simp] theorem State.noteRefused_record (s : State) (n : Nat) : (s.noteRefused n).record = s.record := by
  unfold State.noteRefused; split <;> rfl
@[simp] theorem State.noteRefused_crcAcc (s : State) (n : Nat) : (s.noteRefused n).crcAcc = s.crcAcc := by
  unfold State.noteRefused; split <;> rfl
@[simp] theorem State.noteRefused_stepIndex (s : State) (n : Nat) : (s.noteRefused n).stepIndex = s.stepIndex := by
  unfold State.noteRefused; split <;> rfl
@[simp] theorem State.noteRefused_faultLog (s : State) (n : Nat) : (s.noteRefused n).faultLog = s.faultLog := by
  unfold State.noteRefused; split <;> rfl
@[simp] theorem State.noteRefused_hostQ (s : State) (n : Nat) : (s.noteRefused n).hostQ = s.hostQ := by
  unfold State.noteRefused; split <;> rfl
@[simp] theorem State.noteRefused_replies (s : State) (n : Nat) : (s.noteRefused n).replies = s.replies := by
  unfold State.noteRefused; split <;> rfl
@[simp] theorem State.noteRefused_draws (s : State) (n : Nat) : (s.noteRefused n).draws = s.draws := by
  unfold State.noteRefused; split <;> rfl

/-- A read of written bytes only leaves no trace. -/
theorem State.noteRead_written (s : State) (n : Nat) (h : s.ibufWritten n = true) : s.noteRead n = s := by
  simp [State.noteRead, h]

/-- A read of an unwritten byte is logged (10_state.md R37, R38). -/
theorem State.noteRead_unwritten (s : State) (n : Nat) (h : s.ibufWritten n = false) :
    s.noteRead n = s.logFault .unwrittenIbuf := by
  simp [State.noteRead, h]

end Sys2Proof.Machine
end

