-- ==== Sys2Proof/Laws/Memory.lean ====
section
/-! SUPPORT. The laws of the byte buffers: read after write, and the canonical form. -/

namespace Sys2Proof.Machine

@[simp] theorem Memory.read_empty (a : Nat) : Memory.read? [] a = none := rfl

theorem Memory.read_write_same (m : Memory) (a : Nat) (b : Byte) : (m.write a b).read? a = some b := by
  induction m with
  | nil => simp [Memory.write, Memory.read?]
  | cons c m ih =>
    obtain ⟨x, v⟩ := c
    simp only [Memory.write]
    split
    · simp [Memory.read?]
    · split
      · simp [Memory.read?]
      · rename_i h; simp [Memory.read?, Ne.symm h, ih]

theorem Memory.read_write_other (m : Memory) (a a' : Nat) (b : Byte) (h : a' ≠ a) : (m.write a b).read? a' = m.read? a' := by
  induction m with
  | nil => simp [Memory.write, Memory.read?, Ne.symm h]
  | cons c m ih =>
    obtain ⟨x, v⟩ := c
    simp only [Memory.write]
    split
    · simp [Memory.read?, Ne.symm h]
    · split
      · rename_i hx; subst hx; simp [Memory.read?, Ne.symm h]
      · simp [Memory.read?, ih]

theorem Memory.mem_write {m : Memory} {a : Nat} {b : Byte} {c : Host.Cell} (h : c ∈ m.write a b) : c = (a, b) ∨ c ∈ m := by
  induction m with
  | nil => simpa [Memory.write] using h
  | cons d m ih =>
    obtain ⟨x, v⟩ := d
    simp only [Memory.write] at h
    split at h
    · simpa using h
    · split at h
      · simp only [List.mem_cons] at h ⊢; tauto
      · simp only [List.mem_cons] at h ⊢; rcases h with h | h
        · tauto
        · rcases ih h with h | h <;> tauto

theorem Memory.write_wf (m : Memory) (a : Nat) (b : Byte) (h : m.wf) : (m.write a b).wf := by
  induction m with
  | nil => simp [Memory.write]
  | cons c m ih =>
    obtain ⟨x, v⟩ := c
    obtain ⟨hx, hm⟩ := List.pairwise_cons.mp h
    simp only [Memory.write]
    split
    · rename_i hax
      refine List.pairwise_cons.mpr ⟨?_, h⟩
      intro d hd
      rcases List.mem_cons.mp hd with rfl | hd
      · exact hax
      · exact lt_trans hax (hx d hd)
    · split
      · rename_i hax; subst hax; exact List.pairwise_cons.mpr ⟨hx, hm⟩
      · refine List.pairwise_cons.mpr ⟨?_, ih hm⟩
        intro d hd
        rcases Memory.mem_write hd with rfl | hd
        · simp only; omega
        · exact hx d hd

theorem Memory.write_within (m : Memory) (a cap : Nat) (b : Byte) (h : m.within cap) (ha : a < cap) :
    (m.write a b).within cap := by
  refine ⟨Memory.write_wf m a b h.1, fun c hc => ?_⟩
  rcases Memory.mem_write hc with rfl | hc
  · exact ha
  · exact h.2 c hc

/-- What a byte string written from `a` on reads as: its own bytes inside, the old ones outside. -/
theorem Memory.read_writeBytes (bs : List Byte) (m : Memory) (a x : Nat) :
    (m.writeBytes a bs).read? x = if a ≤ x ∧ x < a + bs.length then bs[x - a]? else m.read? x := by
  induction bs generalizing m a with
  | nil => simp [Memory.writeBytes]
  | cons b bs ih =>
    rw [Memory.writeBytes, ih]
    by_cases hx : x = a
    · subst hx; simp [Memory.read_write_same]
    · rw [Memory.read_write_other _ _ _ _ hx]
      by_cases h : a + 1 ≤ x ∧ x < a + 1 + bs.length
      · have h2 : a ≤ x ∧ x < a + (b :: bs).length := by simp only [List.length_cons]; omega
        have h3 : x - a = (x - (a + 1)) + 1 := by omega
        rw [if_pos h, if_pos h2, h3, List.getElem?_cons_succ]
      · have h2 : ¬ (a ≤ x ∧ x < a + (b :: bs).length) := by simp only [List.length_cons]; omega
        rw [if_neg h, if_neg h2]

theorem Memory.writeBytes_within (bs : List Byte) (m : Memory) (a cap : Nat) (h : m.within cap) (ha : a + bs.length ≤ cap) :
    (m.writeBytes a bs).within cap := by
  induction bs generalizing m a with
  | nil => exact h
  | cons b bs ih =>
    simp only [List.length_cons] at ha
    exact ih _ _ (Memory.write_within m a cap b h (by omega)) (by omega)

theorem Memory.writeBytes_wf (bs : List Byte) (m : Memory) (a : Nat) (h : m.wf) : (m.writeBytes a bs).wf := by
  induction bs generalizing m a with
  | nil => exact h
  | cons b bs ih => exact ih _ _ (Memory.write_wf m a b h)

theorem State.reset_memory_wf (p : Config.Params) :
    (State.resetWith p).ibuf.wf ∧ (State.resetWith p).obuf.wf := by simp [State.resetWith]

/-! ### The operand IBUF[0:IBUF_LEN) -/

@[simp] theorem State.length_ibufBytes (s : State) : s.ibufBytes.length = s.ibufLen.toNat := by
  simp [State.ibufBytes, State.ibufCount]

/-- Where IBUF[0:IBUF_LEN) is bs, a command reads bs and no byte of it is unwritten. -/
theorem State.IbufIs.ibufBytes_eq {s : State} {bs : List Byte} (h : s.IbufIs bs) : s.ibufBytes = bs := by
  apply List.ext_getElem
  · simp [h.len]
  · intro i h1 h2
    have := h.bytes i h2
    simp [State.ibufBytes, State.ibufByte, this, List.getElem?_eq_getElem h2]

theorem State.IbufIs.written {s : State} {bs : List Byte} (h : s.IbufIs bs) (n : Nat) (hn : n ≤ bs.length) :
    s.ibufWritten n = true := by
  simp only [State.ibufWritten, List.all_eq_true, List.mem_range]
  intro a ha
  have ha' : a < bs.length := by omega
  rw [h.bytes a ha', List.getElem?_eq_getElem ha']; rfl

end Sys2Proof.Machine
end

