-- ==== Sys2Proof/Laws/Ops.lean ====
section
/-! SUPPORT. What each shared operation can do, said once: the provers cite these and unfold no operation. -/

namespace Sys2Proof.Machine

theorem finish_eq (s : State) : finish s = .next (s.complete .ok) := rfl
theorem raise_eq (e : ErrCode) (s : State) : raise e s = .next (s.complete e) := rfl
theorem raiseFault_eq (f : UsageFault) (e : ErrCode) (s : State) :
    raiseFault f e s = .next ((s.logFault f).complete e) := rfl
theorem finishRes_eq (v : Word) (s : State) : finishRes v s = .next ((s.setRes v).complete .ok) := rfl

theorem withSlot_present (t : SlotIx) (s : State) (k : Bytes4 → Result) (h : (s.slot t).present = true) :
    withSlot t s k = k (s.slot t).bytes := by simp [withSlot, h]
theorem withSlot_absent (t : SlotIx) (s : State) (k : Bytes4 → Result) (h : (s.slot t).present = false) :
    withSlot t s k = .next ((s.logFault .emptyOperand).complete .emptyOperand) := by
  simp [withSlot, h, raiseFault_eq]

theorem withRecord_present (s : State) (k : Record → Result) (h : s.record.present = true) :
    withRecord s k = k s.record := by simp [withRecord, h]
theorem withRecord_absent (s : State) (k : Record → Result) (h : s.record.present = false) :
    withRecord s k = .next ((s.logFault .emptyOperand).complete .emptyOperand) := by
  simp [withRecord, h, raiseFault_eq]

/-- Everything that `withSlot` can answer. -/
theorem withSlot_cases (t : SlotIx) (s : State) (k : Bytes4 → Result) :
    ((s.slot t).present = true ∧ withSlot t s k = k (s.slot t).bytes) ∨
    ((s.slot t).present = false ∧ withSlot t s k = .next ((s.logFault .emptyOperand).complete .emptyOperand)) := by
  cases h : (s.slot t).present
  · exact .inr ⟨rfl, withSlot_absent t s k h⟩
  · exact .inl ⟨rfl, withSlot_present t s k h⟩

/-- Everything that `withRecord` can answer. -/
theorem withRecord_cases (s : State) (k : Record → Result) :
    (s.record.present = true ∧ withRecord s k = k s.record) ∨
    (s.record.present = false ∧ withRecord s k = .next ((s.logFault .emptyOperand).complete .emptyOperand)) := by
  cases h : s.record.present
  · exact .inr ⟨rfl, withRecord_absent s k h⟩
  · exact .inl ⟨rfl, withRecord_present s k h⟩

/-- Everything that `readIbuf` can answer. -/
theorem readIbuf_cases (n : Nat) (s : State) (k : State → Result) :
    (n ≤ s.cfg.ibufCap ∧ readIbuf n s k = k (s.noteRead n)) ∨ (s.cfg.ibufCap < n ∧ readIbuf n s k = .fault .ibufAddress) := by
  unfold readIbuf
  split
  · exact .inl ⟨‹_›, rfl⟩
  · exact .inr ⟨by omega, rfl⟩

/-- Everything that `finishObuf` can answer. -/
theorem finishObuf_cases (n : Nat) (bs : List Byte) (s : State) :
    (n ≤ s.cfg.obufCap ∧ finishObuf n bs s = .next ((s.storeObuf n bs).complete .ok)) ∨
    (s.cfg.obufCap < n ∧ finishObuf n bs s = .fault .obufAddress) := by
  unfold finishObuf
  split
  · exact .inl ⟨‹_›, rfl⟩
  · exact .inr ⟨by omega, rfl⟩

/-- The read of a wholly written IBUF[0:n) with n within P_IBUF_CAP leaves no trace. -/
theorem readIbuf_written (n : Nat) (s : State) (k : State → Result) (hn : n ≤ s.cfg.ibufCap) (h : s.ibufWritten n = true) :
    readIbuf n s k = k s := by
  rw [readIbuf, if_pos hn, State.noteRead_written s n h]

/-- Everything that `unlessBusy` can answer. -/
theorem unlessBusy_cases (s : State) (r : Result) :
    (s.busy = false ∧ unlessBusy s r = r) ∨ (s.busy = true ∧ unlessBusy s r = .refused (.writeWhileBusy s.markRefused)) := by
  unfold unlessBusy
  cases s.busy
  · exact .inl ⟨rfl, rfl⟩
  · exact .inr ⟨rfl, rfl⟩

/-- Everything that `readResult` can answer. -/
theorem readResult_cases (s : State) (v busyValue : Reply) :
    (s.busy = false ∧ readResult s v busyValue = .next (s.reply v)) ∨
    (s.busy = true ∧ readResult s v busyValue = .next (s.reply busyValue).markRefused.drawOne) := by
  unfold readResult
  cases s.busy
  · exact .inl ⟨rfl, rfl⟩
  · exact .inr ⟨rfl, rfl⟩

/-- Everything that `hostReadObuf` can answer. -/
theorem hostReadObuf_cases (a : Nat) (s : State) :
    (s.cfg.obufCap ≤ a ∧ hostReadObuf a s = .refused (.obufAddress s.markRefused)) ∨
    (a < s.cfg.obufCap ∧ s.busy = true ∧
      hostReadObuf a s = .next (s.reply (.byte (Config.busyByte s.draws a))).markRefused.drawOne) ∨
    (a < s.cfg.obufCap ∧ s.busy = false ∧ a < s.obufLen.toNat ∧
      hostReadObuf a s = .next (s.reply (.byte ((s.obuf.read? a).getD (Config.staleByte s.draws a))))) ∨
    (a < s.cfg.obufCap ∧ s.busy = false ∧ s.obufLen.toNat ≤ a ∧
      hostReadObuf a s = .next ((s.reply (.byte (Config.staleByte s.draws a))).logFault .obufBeyondLen)) := by
  unfold hostReadObuf
  by_cases h1 : s.cfg.obufCap ≤ a
  · exact .inl ⟨h1, if_pos h1⟩
  refine .inr ?_
  rw [if_neg h1]
  cases hb : s.busy
  · by_cases h2 : a < s.obufLen.toNat
    · exact .inr (.inl ⟨by omega, rfl, h2, by simp [h2]⟩)
    · exact .inr (.inr ⟨by omega, rfl, by omega, by simp [h2]⟩)
  · exact .inl ⟨by omega, rfl, rfl⟩

/-- Everything that the engine can do with the word in its latch. -/
theorem runCommand_cases (s : State) :
    (∃ e, decode s.cmd = .error e ∧ runCommand s = .next ((s.logFault .illegalCommand).complete .illegalCommand)) ∨
    (∃ i, decode s.cmd = .ok i ∧ runCommand s = exec i s) := by
  unfold runCommand
  cases h : decode s.cmd with
  | error e => exact .inl ⟨e, rfl, rfl⟩
  | ok i => exact .inr ⟨i, rfl, rfl⟩

/-- Everything that the decode chain can answer (43_chunk_record.md R169). -/
theorem decodeRecord_cases (buf : List Byte) :
    (buf.length < 12 ∧ decodeRecord buf = ⟨0, .error .tooShort⟩) ∨
    (12 ≤ buf.length ∧ buf.length ≠ 12 + (be32 (bytes4At buf 0)).toNat ∧ decodeRecord buf = ⟨4, .error .lengthMismatch⟩) ∨
    (buf.length = 12 + (be32 (bytes4At buf 0)).toNat ∧ allLetters (bytes4At buf 4) = false ∧
      decodeRecord buf = ⟨8, .error .invalidTypeCode⟩) ∨
    (buf.length = 12 + (be32 (bytes4At buf 0)).toNat ∧ allLetters (bytes4At buf 4) = true ∧
      crc32 (crcMessage (bytes4At buf 4) (slice buf 8 (be32 (bytes4At buf 0)).toNat)) ≠
        be32 (bytes4At buf (8 + (be32 (bytes4At buf 0)).toNat)) ∧
      decodeRecord buf = ⟨buf.length, .error .crcMismatch⟩) ∨
    (buf.length = 12 + (be32 (bytes4At buf 0)).toNat ∧ allLetters (bytes4At buf 4) = true ∧
      crc32 (crcMessage (bytes4At buf 4) (slice buf 8 (be32 (bytes4At buf 0)).toNat)) =
        be32 (bytes4At buf (8 + (be32 (bytes4At buf 0)).toNat)) ∧
      decodeRecord buf = ⟨buf.length, .ok ⟨true, be32 (bytes4At buf 0), bytes4At buf 4,
        slice buf 8 (be32 (bytes4At buf 0)).toNat, be32 (bytes4At buf (8 + (be32 (bytes4At buf 0)).toNat))⟩⟩) := by
  unfold decodeRecord
  by_cases h1 : buf.length < 12
  · exact .inl ⟨h1, by rw [if_pos h1]⟩
  refine .inr ?_
  simp only [if_neg h1]
  by_cases h2 : buf.length ≠ 12 + (be32 (bytes4At buf 0)).toNat
  · exact .inl ⟨by omega, h2, by rw [if_pos h2]⟩
  refine .inr ?_
  simp only [if_neg h2]
  have h2' := not_not.mp h2
  cases h3 : allLetters (bytes4At buf 4)
  · exact .inl ⟨h2', rfl, by simp⟩
  refine .inr ?_
  simp only [if_true]
  by_cases h4 : crc32 (crcMessage (bytes4At buf 4) (slice buf 8 (be32 (bytes4At buf 0)).toNat)) =
      be32 (bytes4At buf (8 + (be32 (bytes4At buf 0)).toNat))
  · exact .inr ⟨h2', trivial, h4, by simp [h4]⟩
  · exact .inl ⟨h2', trivial, h4, by simp [h4]⟩

end Sys2Proof.Machine
end

