-- ==== Sys2Proof/Laws/Exec.lean ====
section
/-! SUPPORT. Everything a command can do, said once: `exec_effect` takes apart an `exec i s` that answers a next state, and
the provers cite it instead of unfolding twenty meanings. -/

namespace Sys2Proof.Machine

/-- The state b differs from s in the model's bookkeeping only: entries added to the fault log, the refused mark set or
not. -/
def Booked (s b : State) : Prop :=
  ∃ l m, b = { s with faultLog := s.faultLog ++ l, refusedMark := s.refusedMark || m }

theorem Booked.refl (s : State) : Booked s s := ⟨[], false, by simp⟩

theorem Booked.log (s : State) (f : UsageFault) : Booked s (s.logFault f) := ⟨[(s.cmd, f)], false, by simp [State.logFault]⟩

theorem Booked.trans {s b c : State} (h : Booked s b) (h2 : Booked b c) : Booked s c := by
  obtain ⟨l, m, rfl⟩ := h
  obtain ⟨l', m', rfl⟩ := h2
  exact ⟨l ++ l', m || m', by simp [Bool.or_assoc]⟩

theorem Booked.note (s : State) (n : Nat) : Booked s (s.noteRead n) := by
  unfold State.noteRead
  split
  · exact Booked.refl s
  · exact Booked.log s _

theorem Booked.refused (s : State) (n : Nat) : Booked s (s.noteRefused n) := by
  unfold State.noteRefused
  split
  · exact ⟨[], true, by simp [State.markRefused]⟩
  · exact Booked.refl s

/-- The byte string bs, of length n where REC keeps its invariant, is what the command i writes to OBUF. -/
inductive OutputOf (s : State) : Instr → Nat → List Byte → Prop
  | payload (h : s.record.present = true) : OutputOf s .chunkPayload s.record.len.toNat s.record.payload
  | payloadText (h : s.record.present = true) (hu : utf8Valid s.record.payload = true) :
      OutputOf s .chunkPayloadText s.record.len.toNat s.record.payload
  | wire (h : s.record.present = true) : OutputOf s .chunkEncode (12 + s.record.len.toNat) (encodeRecord s.record)
  | rendering (h : s.record.present = true) :
      OutputOf s .chunkRender (renderBytes s.cfg.obufCap s.record).length (renderBytes s.cfg.obufCap s.record)
  | typeCode (t : SlotIx) (h : (s.slot t).present = true) : OutputOf s (.tcRender t) 4 (bytesOf (s.slot t).bytes)

/-- The commands that write RES and nothing else but STATUS. -/
def scalarCommand : Instr → Bool
  | .tcBytes _ => true
  | .tcIsCritical _ => true
  | .tcIsPublic _ => true
  | .tcIsReservedBitValid _ => true
  | .tcIsSafeToCopy _ => true
  | .tcIsValid _ => true
  | .tcEqual => true
  | .chunkLength => true
  | .chunkCrc => true
  | .tcFromBytes _ => false
  | .tcFromText _ => false
  | .tcRender _ => false
  | .chunkNew _ => false
  | .chunkType _ => false
  | .chunkPayload => false
  | .chunkPayloadText => false
  | .chunkEncode => false
  | .chunkDecode => false
  | .chunkRender => false
  | .crcCompute => false

/-- Everything that a command that goes on can have done. -/
inductive ExecEffect (i : Instr) (s s' : State) : Prop
  /-- It ended with nothing but a code and bookkeeping. -/
  | ended (b : State) (e : ErrCode) (hb : Booked s b) (h : s' = b.complete e)
  | slotBuilt (t : SlotIx) (b : State) (v : Bytes4) (hi : i = .tcFromBytes t ∨ i = .tcFromText t) (hv : allLetters v = true)
      (hb : Booked s b) (h : s' = (b.setSlot t v).complete .ok)
  | typeCopied (t : SlotIx) (hi : i = .chunkType t) (hp : s.record.present = true)
      (h : s' = (s.setSlot t s.record.type).complete .ok)
  | scalar (v : Word) (hi : scalarCommand i = true) (h : s' = (s.setRes v).complete .ok)
  | computed (b : State) (v c : Word) (hi : i = .crcCompute) (hb : Booked s b) (h : s' = ((b.setCrcAcc c).setRes v).complete .ok)
  | recordBuilt (t : SlotIx) (b : State) (c : Word) (hi : i = .chunkNew t) (hp : (s.slot t).present = true)
      (hn : s.ibufCount ≤ s.cfg.payloadCap) (hb : Booked s b)
      (h : s' = ((b.setRecord (newRecord (s.slot t).bytes s.ibufBytes s.ibufCount)).setCrcAcc c).complete .ok)
  | recordDecoded (b : State) (r : Record) (c : Word) (hi : i = .chunkDecode)
      (hr : (decodeRecord s.ibufBytes).result = .ok r) (hn : (decodeRecord s.ibufBytes).nread ≤ s.cfg.ibufCap)
      (hb : Booked s b) (h : s' = ((b.setRecord r).setCrcAcc c).complete .ok)
  | output (n : Nat) (bs : List Byte) (ho : OutputOf s i n bs) (hn : n ≤ s.cfg.obufCap)
      (h : s' = (s.storeObuf n bs).complete .ok)

theorem effect_of_absent {i : Instr} {s s' : State}
    (h : Host.Outcome.next ((s.logFault .emptyOperand).complete .emptyOperand) = (Host.Outcome.next s' : Result)) :
    ExecEffect i s s' := by
  cases h
  exact .ended _ _ (Booked.log s _) rfl

theorem effect_of_output {i : Instr} {s s' : State} {n : Nat} {bs : List Byte} (ho : OutputOf s i n bs)
    (h : finishObuf n bs s = .next s') : ExecEffect i s s' := by
  rcases finishObuf_cases n bs s with ⟨h1, h2⟩ | ⟨_, h2⟩
  · rw [h2] at h
    cases h
    exact .output n bs ho h1 rfl
  · rw [h2] at h
    cases h

/-- A command that needs a slot and ends with a word in RES. -/
theorem effect_of_slot_scalar {i : Instr} {s s' : State} {t : SlotIx} {f : Bytes4 → Word} (hi : scalarCommand i = true)
    (h : (withSlot t s fun b => finishRes (f b) s) = .next s') : ExecEffect i s s' := by
  rcases withSlot_cases t s (fun b => finishRes (f b) s) with ⟨_, h2⟩ | ⟨_, h2⟩ <;> rw [h2] at h
  · cases h
    exact .scalar _ hi rfl
  · exact effect_of_absent h

/-- A command that needs REC and ends with a word in RES. -/
theorem effect_of_record_scalar {i : Instr} {s s' : State} {f : Record → Word} (hi : scalarCommand i = true)
    (h : (withRecord s fun r => finishRes (f r) s) = .next s') : ExecEffect i s s' := by
  rcases withRecord_cases s (fun r => finishRes (f r) s) with ⟨_, h2⟩ | ⟨_, h2⟩ <;> rw [h2] at h
  · cases h
    exact .scalar _ hi rfl
  · exact effect_of_absent h

/-- A command that needs REC and ends with a byte string in OBUF. -/
theorem effect_of_record_output {i : Instr} {s s' : State} {n : Record → Nat} {f : Record → List Byte}
    (ho : s.record.present = true → OutputOf s i (n s.record) (f s.record))
    (h : (withRecord s fun r => finishObuf (n r) (f r) s) = .next s') : ExecEffect i s s' := by
  rcases withRecord_cases s (fun r => finishObuf (n r) (f r) s) with ⟨h1, h2⟩ | ⟨_, h2⟩ <;> rw [h2] at h
  · exact effect_of_output (ho h1) h
  · exact effect_of_absent h

theorem exec_effect (i : Instr) (s s' : State) (h : exec i s = .next s') : ExecEffect i s s' := by
  cases i with
  | tcFromBytes t =>
    simp only [exec, execTcFromBytes] at h
    split at h <;> cases h
    · exact .slotBuilt t s _ (.inl rfl) ‹_› (Booked.refl s) rfl
    · exact .ended s _ (Booked.refl s) rfl
  | tcFromText t =>
    simp only [exec, execTcFromText, readIbuf] at h
    have hb := Booked.note s s.ibufCount
    split at h
    · split at h
      · split at h
        · cases h
          exact .ended _ _ hb rfl
        · split at h
          · cases h
            exact .ended _ _ hb rfl
          · split at h <;> cases h
            · exact .slotBuilt t _ _ (.inr rfl) ‹_› hb rfl
            · exact .ended _ _ hb rfl
      · cases h
        exact .ended _ _ (hb.trans (Booked.refused _ _)) rfl
    · cases h
  | tcBytes t => exact effect_of_slot_scalar rfl h
  | tcIsCritical t => exact effect_of_slot_scalar (f := fun b => boolWord (critical b)) rfl h
  | tcIsPublic t => exact effect_of_slot_scalar (f := fun b => boolWord (isPublic b)) rfl h
  | tcIsReservedBitValid t => exact effect_of_slot_scalar (f := fun b => boolWord (reservedBitValid b)) rfl h
  | tcIsSafeToCopy t => exact effect_of_slot_scalar (f := fun b => boolWord (safeToCopy b)) rfl h
  | tcIsValid t => exact effect_of_slot_scalar (f := fun b => boolWord (isValid b)) rfl h
  | tcRender t =>
    simp only [exec, execTcRender] at h
    rcases withSlot_cases t s (fun b => finishObuf 4 (bytesOf b) s) with ⟨h1, h2⟩ | ⟨_, h2⟩ <;> rw [h2] at h
    · exact effect_of_output (.typeCode t h1) h
    · exact effect_of_absent h
  | tcEqual =>
    simp only [exec, execTcEqual] at h
    rcases withSlot_cases .t0 s (fun b0 => withSlot .t1 s fun b1 => finishRes (boolWord (b0 = b1)) s) with
      ⟨_, h2⟩ | ⟨_, h2⟩ <;> rw [h2] at h
    · exact effect_of_slot_scalar (f := fun b1 => boolWord ((s.slot .t0).bytes = b1)) rfl h
    · exact effect_of_absent h
  | chunkNew t =>
    simp only [exec, execChunkNew, withSlot] at h
    split at h
    · rename_i hp
      split at h
      · cases h
        exact .ended _ _ (Booked.log s _) rfl
      · rename_i hc
        simp only [readIbuf] at h
        split at h <;> cases h
        exact .recordBuilt t _ _ rfl hp (by omega) (Booked.note s _) rfl
    · exact effect_of_absent h
  | chunkLength => exact effect_of_record_scalar rfl h
  | chunkCrc => exact effect_of_record_scalar rfl h
  | chunkType t =>
    simp only [exec, execChunkType] at h
    rcases withRecord_cases s (fun r => finish (s.setSlot t r.type)) with ⟨h1, h2⟩ | ⟨_, h2⟩ <;> rw [h2] at h
    · cases h
      exact .typeCopied t rfl h1 rfl
    · exact effect_of_absent h
  | chunkPayload => exact effect_of_record_output (n := fun r => r.len.toNat) (f := Record.payload) .payload h
  | chunkPayloadText =>
    simp only [exec, execChunkPayloadText, withRecord] at h
    split at h
    · split at h
      · exact effect_of_output (.payloadText ‹_› ‹_›) h
      · cases h
        exact .ended s _ (Booked.refl s) rfl
    · exact effect_of_absent h
  | chunkEncode => exact effect_of_record_output (n := fun r => 12 + r.len.toNat) (f := encodeRecord) .wire h
  | chunkDecode =>
    simp only [exec, execChunkDecode, readIbuf] at h
    split at h
    · split at h <;> cases h
      · exact .ended _ _ (Booked.note s _) rfl
      · exact .recordDecoded _ _ _ rfl ‹_› ‹_› (Booked.note s _) rfl
    · cases h
  | chunkRender =>
    exact effect_of_record_output (n := fun r => (renderBytes s.cfg.obufCap r).length)
      (f := fun r => renderBytes s.cfg.obufCap r) .rendering h
  | crcCompute =>
    simp only [exec, execCrcCompute, readIbuf] at h
    split at h <;> cases h
    exact .computed _ _ _ rfl (Booked.note s _) rfl

end Sys2Proof.Machine
end

