-- ==== Sys2Proof/Laws/PerInstr.lean ====
section
/-! SUPPORT. Per-command facts about the syntax: the word of every command is legal, and its opcode names no other. -/

namespace Sys2Proof.Laws.LegalWord

/-- The word of the command is one of the legal words (30_encoding.md R87), and the opcode map has a row for it. -/
def Statement (i : Instr) : Prop :=
  (fieldsOf (encode i)).wellFormed = true ∧ (findOpcode (fieldsOf (encode i)).opc opcodeMap).isSome = true

theorem tcFromBytes (t : SlotIx) : Statement (.tcFromBytes t) := by cases t <;> exact ⟨by decide, by decide⟩
theorem tcFromText (t : SlotIx) : Statement (.tcFromText t) := by cases t <;> exact ⟨by decide, by decide⟩
theorem tcBytes (t : SlotIx) : Statement (.tcBytes t) := by cases t <;> exact ⟨by decide, by decide⟩
theorem tcIsCritical (t : SlotIx) : Statement (.tcIsCritical t) := by cases t <;> exact ⟨by decide, by decide⟩
theorem tcIsPublic (t : SlotIx) : Statement (.tcIsPublic t) := by cases t <;> exact ⟨by decide, by decide⟩
theorem tcIsReservedBitValid (t : SlotIx) : Statement (.tcIsReservedBitValid t) := by
  cases t <;> exact ⟨by decide, by decide⟩
theorem tcIsSafeToCopy (t : SlotIx) : Statement (.tcIsSafeToCopy t) := by cases t <;> exact ⟨by decide, by decide⟩
theorem tcIsValid (t : SlotIx) : Statement (.tcIsValid t) := by cases t <;> exact ⟨by decide, by decide⟩
theorem tcRender (t : SlotIx) : Statement (.tcRender t) := by cases t <;> exact ⟨by decide, by decide⟩
theorem tcEqual : Statement .tcEqual := ⟨by decide, by decide⟩
theorem chunkNew (t : SlotIx) : Statement (.chunkNew t) := by cases t <;> exact ⟨by decide, by decide⟩
theorem chunkLength : Statement .chunkLength := ⟨by decide, by decide⟩
theorem chunkType (t : SlotIx) : Statement (.chunkType t) := by cases t <;> exact ⟨by decide, by decide⟩
theorem chunkPayload : Statement .chunkPayload := ⟨by decide, by decide⟩
theorem chunkCrc : Statement .chunkCrc := ⟨by decide, by decide⟩
theorem chunkPayloadText : Statement .chunkPayloadText := ⟨by decide, by decide⟩
theorem chunkEncode : Statement .chunkEncode := ⟨by decide, by decide⟩
theorem chunkDecode : Statement .chunkDecode := ⟨by decide, by decide⟩
theorem chunkRender : Statement .chunkRender := ⟨by decide, by decide⟩
theorem crcCompute : Statement .crcCompute := ⟨by decide, by decide⟩

end Sys2Proof.Laws.LegalWord
end

