-- ==== Sys2Proof/Tests/Slice0.lean ====
section
/-! SUPPORT. Tests. Every expected result is one of spec/95_test_vectors.md or worked out by hand from a rule. -/

namespace Sys2Proof.Tests

open Sys2Proof.Machine

/-! ### Well-formedness: a term that each check refuses -/

theorem test_reserved_refused : (CmdFields.mk 0x04#8 0#1 1#23).reservedOk = false := by decide
theorem test_opcode_refused : (CmdFields.mk 0x0B#8 0#1 0#23).opcodeOk = false := by decide
theorem test_slot_refused : (CmdFields.mk 0x0A#8 1#1 0#23).slotOk = false := by decide
theorem test_illFormed_refused :
    (CmdFields.mk 0x04#8 0#1 1#23).wellFormed = false ∧ (CmdFields.mk 0x0B#8 0#1 0#23).wellFormed = false ∧
      (CmdFields.mk 0x0A#8 1#1 0#23).wellFormed = false ∧ (CmdFields.mk 0x04#8 1#1 0#23).wellFormed = true := by decide

/-! ### Decoding: words written out from the "Encoding" line of each command's rule, [31:9] reserved, [8] T, [7:0] OPC -/

/-- The command of a word, for comparison. -/
def cmdOf (w : Word) : Option Instr := (decode w).toOption

/-- The reason a word is illegal, for comparison. -/
def whyIllegal (w : Word) : Option IllegalWord := match decode w with | .error e => some e | .ok _ => none

theorem test_decode_constructors_t0 :
    cmdOf 0b00000000000000000000000_0_00000001#32 = some (.tcFromBytes .t0) ∧
      cmdOf 0b00000000000000000000000_0_00000010#32 = some (.tcFromText .t0) := by decide
theorem test_decode_constructors_t1 :
    cmdOf 0x00000101#32 = some (.tcFromBytes .t1) ∧ cmdOf 0x00000102#32 = some (.tcFromText .t1) := by decide
theorem test_decode_typecode_t0 :
    cmdOf 0b00000000000000000000000_0_00000011#32 = some (.tcBytes .t0) ∧
      cmdOf 0b00000000000000000000000_0_00000100#32 = some (.tcIsCritical .t0) ∧
      cmdOf 0b00000000000000000000000_0_00000101#32 = some (.tcIsPublic .t0) ∧
      cmdOf 0b00000000000000000000000_0_00000110#32 = some (.tcIsReservedBitValid .t0) ∧
      cmdOf 0b00000000000000000000000_0_00000111#32 = some (.tcIsSafeToCopy .t0) ∧
      cmdOf 0b00000000000000000000000_0_00001000#32 = some (.tcIsValid .t0) ∧
      cmdOf 0b00000000000000000000000_0_00001001#32 = some (.tcRender .t0) ∧
      cmdOf 0b00000000000000000000000_0_00001010#32 = some .tcEqual := by decide
theorem test_decode_typecode_t1 :
    cmdOf 0x00000103#32 = some (.tcBytes .t1) ∧ cmdOf 0x00000104#32 = some (.tcIsCritical .t1) ∧
      cmdOf 0x00000105#32 = some (.tcIsPublic .t1) ∧ cmdOf 0x00000106#32 = some (.tcIsReservedBitValid .t1) ∧
      cmdOf 0x00000107#32 = some (.tcIsSafeToCopy .t1) ∧ cmdOf 0x00000108#32 = some (.tcIsValid .t1) ∧
      cmdOf 0x00000109#32 = some (.tcRender .t1) := by decide
theorem test_decode_chunk :
    cmdOf 0b00000000000000000000000_0_00010000#32 = some (.chunkNew .t0) ∧ cmdOf 0x00000110#32 = some (.chunkNew .t1) ∧
      cmdOf 0b00000000000000000000000_0_00010001#32 = some .chunkLength ∧
      cmdOf 0b00000000000000000000000_0_00010010#32 = some (.chunkType .t0) ∧
      cmdOf 0b00000000000000000000000_1_00010010#32 = some (.chunkType .t1) ∧
      cmdOf 0b00000000000000000000000_0_00010011#32 = some .chunkPayload ∧
      cmdOf 0b00000000000000000000000_0_00010100#32 = some .chunkCrc ∧
      cmdOf 0b00000000000000000000000_0_00010101#32 = some .chunkPayloadText ∧
      cmdOf 0b00000000000000000000000_0_00010110#32 = some .chunkEncode ∧
      cmdOf 0b00000000000000000000000_0_00010111#32 = some .chunkDecode ∧
      cmdOf 0b00000000000000000000000_0_00011000#32 = some .chunkRender := by decide
theorem test_decode_generator : cmdOf 0b00000000000000000000000_0_00100000#32 = some .crcCompute := by decide

/-- Vectors CW1 to CW8 and CW15 (95_test_vectors.md 2.1). -/
theorem test_decode_illegal :
    whyIllegal 0x00000000#32 = some .unassignedOpcode ∧ whyIllegal 0x0000000B#32 = some .unassignedOpcode ∧
      whyIllegal 0x00000021#32 = some .unassignedOpcode ∧ whyIllegal 0x000000FF#32 = some .unassignedOpcode ∧
      whyIllegal 0x00000204#32 = some .reservedBits ∧ whyIllegal 0x80000004#32 = some .reservedBits ∧
      whyIllegal 0x0000010A#32 = some .slotNotUsed ∧ whyIllegal 0x00000117#32 = some .slotNotUsed ∧
      whyIllegal 0x00000304#32 = some .reservedBits := by decide
theorem test_encode_words :
    encode (.tcRender .t1) = 0x00000109#32 ∧ encode (.chunkType .t1) = 0x00000112#32 ∧ encode .crcCompute = 0x00000020#32 := by
  decide

/-- 30_encoding.md R87: the 31 legal words. -/
theorem test_legalWords : legalWords.length = 31 ∧ legalWords.all (fun w => (cmdOf w).isSome) = true := by decide

/-! ### Small states -/

/-- The state of a result that goes on. -/
def nextOf : Result → Option State
  | .next s => some s
  | .fault _ => none
  | .refused _ => none

/-- One field of a result that goes on. -/
def field {α : Type} (f : State → α) (r : Result) : Option α := (nextOf r).map f

/-- ERR of a result that goes on. -/
def errOf (r : Result) : Option Byte := field State.err r

/-- RES and ERR of a result that goes on. -/
def resErr (r : Result) : Option (Word × Byte) := field (fun s => (s.res, s.err)) r

/-- A buffer that lists the bytes from an address on. -/
def cells : Nat → List Byte → Memory
  | _, [] => []
  | a, b :: bs => (a, b) :: cells (a + 1) bs

/-- The reset state with IBUF[0:IBUF_LEN) = bs, written by the host. -/
def withInput (bs : List Byte) (s : State) : State := { s with ibuf := cells 0 bs, ibufLen := BitVec.ofNat 64 bs.length }

/-- "AbCd". -/
def abCd : Bytes4 := ⟨0x41#8, 0x62#8, 0x43#8, 0x64#8⟩

/-- Reset, then TC[0] = "AbCd" (the start of 95_test_vectors.md 2.1). -/
def slotState : State := { State.reset with tc0 := ⟨true, abCd⟩ }

/-- The record of the source's end-to-end example (95_test_vectors.md S7). -/
def recordN1 : Record := ⟨true, 3#32, abCd, [0x01#8, 0x02#8, 0x03#8], 0x3BC61420#32⟩

/-- A present record with the given payload; its checksum is not looked at by the tests that use it. -/
def recordOf (payload : List Byte) : State :=
  { State.reset with record := ⟨true, BitVec.ofNat 32 payload.length, abCd, payload, 0#32⟩ }

/-- Reset, then TC[0] = "AbCd" and REC = the record of S7. -/
def recordState : State := { slotState with record := recordN1 }

/-- The S7 bytes. -/
def bytesN1 : List Byte := [0x00#8, 0x00#8, 0x00#8, 0x03#8, 0x41#8, 0x62#8, 0x43#8, 0x64#8, 0x01#8, 0x02#8, 0x03#8, 0x3B#8, 0xC6#8, 0x14#8, 0x20#8]

/-! ### TypeCode commands -/

/-- 41_typecode.md R103, example; 95_test_vectors.md TC-B5 to TC-B8. -/
theorem test_fromBytes :
    field (fun s => (s.tc1, s.err)) (exec (.tcFromBytes .t1) { State.reset with arg := 0x41624364#32 }) = some (⟨true, abCd⟩, 0x00#8) := by
  decide
theorem test_fromBytes_boundaries :
    errOf (exec (.tcFromBytes .t0) { State.reset with arg := 0x40414141#32 }) = some 0x01#8 ∧
      errOf (exec (.tcFromBytes .t0) { State.reset with arg := 0x415B4141#32 }) = some 0x01#8 ∧
      errOf (exec (.tcFromBytes .t0) { State.reset with arg := 0x41416041#32 }) = some 0x01#8 ∧
      errOf (exec (.tcFromBytes .t0) { State.reset with arg := 0x4141417B#32 }) = some 0x01#8 ∧
      errOf (exec (.tcFromBytes .t0) { State.reset with arg := 0x5A417A61#32 }) = some 0x00#8 := by decide

/-- 95_test_vectors.md TX1, TX2, TX3, TX5, TX8, TX9 with the unit CHARS. -/
theorem test_fromText_chars :
    field (fun s => (s.tc0, s.err)) (exec (.tcFromText .t0) (withInput [0x41#8, 0x62#8, 0x43#8, 0x64#8] State.reset)) =
        some (⟨true, abCd⟩, 0x00#8) ∧
      errOf (exec (.tcFromText .t0) (withInput [] State.reset)) = some 0x02#8 ∧
      errOf (exec (.tcFromText .t0) (withInput [0x41#8, 0x62#8, 0x43#8] State.reset)) = some 0x02#8 ∧
      errOf (exec (.tcFromText .t0) (withInput [0x41#8, 0x62#8, 0x31#8, 0x64#8] State.reset)) = some 0x01#8 ∧
      errOf (exec (.tcFromText .t0) (withInput [0xC3#8, 0xA9#8, 0xC3#8, 0xA9#8, 0x61#8, 0x62#8] State.reset)) = some 0x01#8 ∧
      errOf (exec (.tcFromText .t0) (withInput [0xC3#8, 0xA9#8, 0x61#8, 0x62#8] State.reset)) = some 0x02#8 := by decide

/-- The full-range parameters with the unit BYTES. -/
def bytesUnit : State := State.resetWith { Config.fullRange with textUnit := .bytes }

/-- 95_test_vectors.md TX8, TX9 with the unit BYTES, and TX10 (refused: the mark is set and TC[0] stays). -/
theorem test_fromText_bytes :
    errOf (exec (.tcFromText .t0) (withInput [0xC3#8, 0xA9#8, 0xC3#8, 0xA9#8, 0x61#8, 0x62#8] bytesUnit)) = some 0x02#8 ∧
      errOf (exec (.tcFromText .t0) (withInput [0xC3#8, 0xA9#8, 0x61#8, 0x62#8] bytesUnit)) = some 0x01#8 ∧
      field (fun s => (s.refusedMark, s.tc0.present, s.faultLog))
        (exec (.tcFromText .t0) (withInput [0x41#8, 0x62#8, 0xFF#8, 0x64#8] bytesUnit)) = some (true, false, []) := by decide

/-- 41_typecode.md R105, example. -/
theorem test_bytes : resErr (exec (.tcBytes .t0) slotState) = some (0x41624364#32, 0x00#8) := by decide

/-- 95_test_vectors.md S1. -/
theorem test_properties_AbCd :
    resErr (exec (.tcIsCritical .t0) slotState) = some (1#32, 0x00#8) ∧
      resErr (exec (.tcIsPublic .t0) slotState) = some (0#32, 0x00#8) ∧
      resErr (exec (.tcIsReservedBitValid .t0) slotState) = some (1#32, 0x00#8) ∧
      resErr (exec (.tcIsSafeToCopy .t0) slotState) = some (1#32, 0x00#8) ∧
      resErr (exec (.tcIsValid .t0) slotState) = some (1#32, 0x00#8) := by decide

/-- 95_test_vectors.md 2.2, row aBcD, in TC[1]. -/
theorem test_properties_aBcD :
    let s := { State.reset with tc1 := ⟨true, ⟨0x61#8, 0x42#8, 0x63#8, 0x44#8⟩⟩ }
    resErr (exec (.tcIsCritical .t1) s) = some (0#32, 0x00#8) ∧ resErr (exec (.tcIsPublic .t1) s) = some (1#32, 0x00#8) ∧
      resErr (exec (.tcIsReservedBitValid .t1) s) = some (0#32, 0x00#8) ∧
      resErr (exec (.tcIsSafeToCopy .t1) s) = some (0#32, 0x00#8) ∧ resErr (exec (.tcIsValid .t1) s) = some (0#32, 0x00#8) := by
  decide

/-- 41_typecode.md R111, example. -/
theorem test_render_typecode :
    field (fun s => (s.obuf, s.obufLen)) (exec (.tcRender .t0) slotState) =
      some ([(0, 0x41#8), (1, 0x62#8), (2, 0x43#8), (3, 0x64#8)], 4#64) := by decide

/-- 95_test_vectors.md 2.5 and CW11. -/
theorem test_equal :
    resErr (exec .tcEqual { slotState with tc1 := ⟨true, abCd⟩ }) = some (1#32, 0x00#8) ∧
      resErr (exec .tcEqual { slotState with tc1 := ⟨true, ⟨0x41#8, 0x62#8, 0x63#8, 0x64#8⟩⟩ }) = some (0#32, 0x00#8) ∧
      errOf (exec .tcEqual slotState) = some 0x81#8 := by decide

/-! ### The generator -/

/-- 95_test_vectors.md CRC1, CRC2, CRC3, CRC4, CRC7. -/
theorem test_crc_values :
    crc32 [] = 0x00000000#32 ∧ crc32 [0x00#8] = 0xD202EF8D#32 ∧ crc32 [0xFF#8] = 0xFF000000#32 ∧
      crc32 [0x61#8] = 0xE8B7BE43#32 ∧ crc32 [0x41#8, 0x62#8, 0x43#8, 0x64#8] = 0xD834468D#32 := by decide +kernel

/-- 95_test_vectors.md CRC5, the catalogue check value, in the three formulations (42_crc_generator.md R141, R144, R145). -/
theorem test_crc_check_value :
    let m : List Byte := [0x31#8, 0x32#8, 0x33#8, 0x34#8, 0x35#8, 0x36#8, 0x37#8, 0x38#8, 0x39#8]
    crc32 m = 0xCBF43926#32 ∧ crc32Table m = 0xCBF43926#32 ∧ crc32Normal m = 0xCBF43926#32 := by decide +kernel

/-- 95_test_vectors.md CRC14 through CRC_COMPUTE. -/
theorem test_crcCompute :
    resErr (exec .crcCompute (withInput [0x41#8, 0x62#8, 0x43#8, 0x64#8, 0x01#8, 0x02#8, 0x03#8] State.reset)) =
      some (0x3BC61420#32, 0x00#8) := by decide +kernel

/-- An unwritten byte below IBUF_LEN is logged as a fault (10_state.md R37, R38). -/
theorem test_crcCompute_unwritten :
    field State.faultLog (exec .crcCompute { State.reset with cmd := 0x20#32, ibufLen := 1#64 }) = some [(0x20#32, .unwrittenIbuf)] := by
  decide

/-! ### ChunkRecord commands -/

/-- 95_test_vectors.md CH-N1. -/
theorem test_chunkNew :
    field (fun s => (s.record, s.err)) (exec (.chunkNew .t0) (withInput [0x01#8, 0x02#8, 0x03#8] slotState)) =
      some (recordN1, 0x00#8) := by decide +kernel

/-- 95_test_vectors.md CH-N6. -/
theorem test_chunkNew_capacity :
    let s := State.resetWith { payloadCap := 2, obufCap := 14, textUnit := .chars, base := 0 }
    field (fun s => (s.err, s.record.present, s.faultLog))
      (exec (.chunkNew .t0) { s with tc0 := ⟨true, abCd⟩, cmd := 0x10#32, ibufLen := 3#64 }) =
      some (0x82#8, false, [(0x10#32, .capacity)]) := by decide

/-- 43_chunk_record.md R161, R164, examples. -/
theorem test_length_crc :
    resErr (exec .chunkLength recordState) = some (3#32, 0x00#8) ∧
      resErr (exec .chunkCrc recordState) = some (0x3BC61420#32, 0x00#8) := by decide

/-- 43_chunk_record.md R162, example; 95_test_vectors.md CW12. -/
theorem test_chunkType :
    field State.tc1 (exec (.chunkType .t1) recordState) = some ⟨true, abCd⟩ ∧
      errOf (exec .chunkLength slotState) = some 0x81#8 := by decide

/-- 43_chunk_record.md R163, example. -/
theorem test_chunkPayload :
    field (fun s => (s.obuf, s.obufLen)) (exec .chunkPayload recordState) =
      some ([(0, 0x01#8), (1, 0x02#8), (2, 0x03#8)], 3#64) := by decide

/-- 95_test_vectors.md UT2 to UT7. -/
theorem test_text_valid :
    errOf (exec .chunkPayloadText (recordOf [])) = some 0x00#8 ∧ errOf (exec .chunkPayloadText (recordOf [0x00#8])) = some 0x00#8 ∧
      errOf (exec .chunkPayloadText (recordOf [0xE2#8, 0x82#8, 0xAC#8])) = some 0x00#8 ∧
      errOf (exec .chunkPayloadText (recordOf [0xF0#8, 0x9F#8, 0x98#8, 0x80#8])) = some 0x00#8 ∧
      errOf (exec .chunkPayloadText (recordOf [0xF4#8, 0x8F#8, 0xBF#8, 0xBF#8])) = some 0x00#8 ∧
      errOf (exec .chunkPayloadText (recordOf [0xEF#8, 0xBF#8, 0xBF#8])) = some 0x00#8 := by decide

/-- 95_test_vectors.md UT8 to UT13. -/
theorem test_text_invalid :
    errOf (exec .chunkPayloadText (recordOf [0xE2#8, 0x82#8])) = some 0x06#8 ∧
      errOf (exec .chunkPayloadText (recordOf [0xC0#8, 0x80#8])) = some 0x06#8 ∧
      errOf (exec .chunkPayloadText (recordOf [0xED#8, 0xA0#8, 0x80#8])) = some 0x06#8 ∧
      errOf (exec .chunkPayloadText (recordOf [0xF4#8, 0x90#8, 0x80#8, 0x80#8])) = some 0x06#8 ∧
      errOf (exec .chunkPayloadText (recordOf [0x80#8])) = some 0x06#8 ∧
      errOf (exec .chunkPayloadText (recordOf [0x01#8, 0x02#8, 0xFF#8])) = some 0x06#8 := by decide

/-- 95_test_vectors.md S7. -/
theorem test_chunkEncode :
    field (fun s => (s.obuf, s.obufLen)) (exec .chunkEncode recordState) = some (cells 0 bytesN1, 15#64) := by decide

/-- 95_test_vectors.md CH-D1 (S8). -/
theorem test_chunkDecode :
    field (fun s => (s.record, s.err)) (exec .chunkDecode (withInput bytesN1 State.reset)) = some (recordN1, 0x00#8) := by
  decide +kernel

/-- 95_test_vectors.md CH-D3, CH-D5, CH-D6, CH-D10, CH-D12. -/
theorem test_chunkDecode_errors :
    errOf (exec .chunkDecode { State.reset with ibufLen := 11#64 }) = some 0x03#8 ∧
      errOf (exec .chunkDecode (withInput
        [0x00#8, 0x00#8, 0x00#8, 0x01#8, 0x49#8, 0x45#8, 0x4E#8, 0x44#8, 0xAE#8, 0x42#8, 0x60#8, 0x82#8] State.reset)) = some 0x04#8 ∧
      errOf (exec .chunkDecode (withInput
        [0xFF#8, 0xFF#8, 0xFF#8, 0xFF#8, 0x41#8, 0x62#8, 0x43#8, 0x64#8, 0x00#8, 0x00#8, 0x00#8, 0x00#8] State.reset)) = some 0x04#8 ∧
      errOf (exec .chunkDecode (withInput
        [0x00#8, 0x00#8, 0x00#8, 0x00#8, 0x31#8, 0x32#8, 0x33#8, 0x34#8, 0x00#8, 0x00#8, 0x00#8, 0x00#8] State.reset)) = some 0x01#8 ∧
      errOf (exec .chunkDecode (withInput
        [0x00#8, 0x00#8, 0x00#8, 0x00#8, 0x49#8, 0x45#8, 0x4E#8, 0x44#8, 0xAF#8, 0x42#8, 0x60#8, 0x82#8] State.reset)) = some 0x05#8 := by
  decide +kernel

/-- 43_chunk_record.md R171: ERR = 0x00, and REC is not changed. -/
theorem test_chunkRender : (exec .chunkRender recordState) = finishObuf (renderBytes recordState.cfg.obufCap recordN1).length
    (renderBytes recordState.cfg.obufCap recordN1) recordState := by rfl

/-! ### The host's side -/

/-- 95_test_vectors.md CW9 and CW10, through the CMD write. -/
theorem test_step_command :
    resErr (step (slotState.withFetchWord 32 0x00000004)) = some (1#32, 0x00#8) ∧
      field (fun s => (s.err, s.cmd, s.faultLog)) (step (slotState.withFetchWord 32 0x00000104)) =
        some (0x81#8, 0x104#32, [(0x104#32, .emptyOperand)]) := by decide

/-- 70_reset_and_hazards.md R242: CRC_COMPUTE and CHUNK_DECODE right after reset; 95_test_vectors.md CW1. -/
theorem test_step_after_reset :
    resErr (step (State.reset.withFetchWord 32 0x00000020)) = some (0#32, 0x00#8) ∧
      errOf (step (State.reset.withFetchWord 32 0x00000017)) = some 0x03#8 ∧
      errOf (step (State.reset.withFetchWord 32 0x00000000)) = some 0x80#8 := by decide

/-- The host's entry decodes a row's word. -/
theorem test_decodeTableWord :
    decodeTableWord 32 0x00000109 = some (.tcRender .t1) ∧ decodeTableWord 16 0x0017 = some .chunkDecode ∧
      decodeTableWord 32 0x00000217 = none := by decide

/-- 20_memory.md R51, R52, R63: a read of ARG, an ignored write to RES, a misaligned read. -/
theorem test_registers :
    field State.replies (step { State.reset with arg := 5#32, hostQ := [.readReg 0x08 .w32] }) = some [.word 5#32] ∧
      field State.res (step { State.reset with res := 7#32, hostQ := [.writeReg 0x0C (.w32 9#32)] }) = some 7#32 ∧
      nextOf (step { State.reset with hostQ := [.readReg 0x0A .w32] }) = none := by decide

/-- 20_memory.md R56: below, at and beyond OBUF_LEN. -/
theorem test_readObuf :
    field State.replies (step { State.reset with obuf := [(0, 0x41#8)], obufLen := 1#64, hostQ := [.readObuf 0] }) = some [.byte 0x41#8] ∧
      field State.faultLog (step { State.reset with obuf := [(0, 0x41#8)], obufLen := 1#64, hostQ := [.readObuf 1] }) =
        some [(0#32, .obufBeyondLen)] := by decide

/-- 70_reset_and_hazards.md R243, R244: the hazards of a block that shows BUSY = 1. -/
theorem test_busy :
    nextOf (step { State.reset with busy := true, hostQ := [.writeReg 0x08 (.w32 1#32)] }) = none ∧
      field State.replies (step { State.reset with busy := true, hostQ := [.readReg 0x04 .w32] }) = some [.word 0x100#32] ∧
      field State.refusedMark (step { State.reset with busy := true, hostQ := [.readReg 0x0C .w32] }) = some true := by decide

/-- 70_reset_and_hazards.md R240: a reset while BUSY = 1. -/
theorem test_reset_while_busy :
    field (fun s => (s.busy, s.arg, s.tc0.present)) (step { slotState with busy := true, arg := 3#32, hostQ := [.reset] }) =
      some (false, 0#32, false) := by decide

/-! ### Witnesses: for each statement with hypotheses, a state and operands that meet all of them -/

theorem read_cells (bs : List Byte) (k a : Nat) : Memory.read? (cells k bs) (k + a) = bs[a]? := by
  induction bs generalizing k a with
  | nil => rfl
  | cons b bs ih =>
    cases a with
    | zero => simp [cells, Memory.read?]
    | succ a =>
      have h := ih (k + 1) a
      rw [show k + 1 + a = k + (a + 1) by omega] at h
      simp [cells, Memory.read?, h]

/-- The host's input is IBUF[0:IBUF_LEN). -/
theorem withInput_is (bs : List Byte) (s : State) (h : bs.length < 2 ^ 64) (hc : bs.length ≤ s.cfg.ibufCap) :
    (withInput bs s).IbufIs bs := by
  refine ⟨?_, fun a _ => ?_, hc⟩
  · simpa [withInput] using h
  · simpa [withInput] using read_cells bs 0 a

theorem next_of_field {α : Type} {f : State → α} {r : Result} {v : α} (h : field f r = some v) :
    ∃ s', r = .next s' ∧ f s' = v := by
  cases r <;> simp_all [field, nextOf]

/-- DecodeReportsFirstFailingCheck: the words at the ends of each range of unassigned opcodes. -/
theorem witness_opcode_ranges :
    whyIllegal 0x00#32 = some .unassignedOpcode ∧ whyIllegal 0x01#32 = none ∧ whyIllegal 0x0A#32 = none ∧
      whyIllegal 0x0B#32 = some .unassignedOpcode ∧ whyIllegal 0x0F#32 = some .unassignedOpcode ∧ whyIllegal 0x10#32 = none ∧
      whyIllegal 0x18#32 = none ∧ whyIllegal 0x19#32 = some .unassignedOpcode ∧ whyIllegal 0x1F#32 = some .unassignedOpcode ∧
      whyIllegal 0x20#32 = none ∧ whyIllegal 0x21#32 = some .unassignedOpcode ∧
      whyIllegal 0x10B#32 = some .unassignedOpcode ∧ whyIllegal 0x300#32 = some .reservedBits := by decide

/-- IllegalWordRaisesIllegalCommand and StepRunsDecodedCommand. -/
theorem witness_cmd_write :
    let q : State := { State.reset with hostQ := [.writeReg 0x00 (.w32 0x120#32)] }
    let r : State := { State.reset with hostQ := [.writeReg 0x00 (.w32 0x20#32)] }
    q.busy = false ∧ q.hostQ = [.writeReg 0x00 (.w32 0x120#32)] ∧ 0x120#32 ∉ legalWords ∧
      r.busy = false ∧ r.hostQ = [.writeReg 0x00 (.w32 0x20#32)] ∧ decode 0x20#32 = .ok .crcCompute := ⟨rfl, rfl, by decide, rfl, rfl, rfl⟩

/-- TcFromBytesBuildsTypeCode: letters at both ends of both ranges, and the bytes just outside. -/
theorem witness_fromBytes :
    allLetters (be32bytes { State.reset with arg := 0x415A617A#32 }.arg) = true ∧
      allLetters (be32bytes { State.reset with arg := 0x405A617A#32 }.arg) = false ∧
      allLetters (be32bytes { State.reset with arg := 0x415B617A#32 }.arg) = false ∧
      allLetters (be32bytes { State.reset with arg := 0x415A607A#32 }.arg) = false ∧
      allLetters (be32bytes { State.reset with arg := 0x415A617B#32 }.arg) = false := by decide

/-- TcFromTextOnWellFormedText: a text of 3 characters, one of 4 characters and 6 bytes, one of 4 with a digit, one that
succeeds; the last is TextConstructorAgreesWithByteConstructor's too. -/
theorem witness_fromText :
    ((withInput [0x41#8, 0x62#8, 0x43#8] State.reset).IbufIs [0x41#8, 0x62#8, 0x43#8] ∧
        utf8Valid [0x41#8, 0x62#8, 0x43#8] = true ∧ textLength .chars [0x41#8, 0x62#8, 0x43#8] ≠ 4) ∧
      ((withInput [0xC3#8, 0xA9#8, 0xC3#8, 0xA9#8, 0x61#8, 0x62#8] State.reset).IbufIs
          [0xC3#8, 0xA9#8, 0xC3#8, 0xA9#8, 0x61#8, 0x62#8] ∧
        utf8Valid [0xC3#8, 0xA9#8, 0xC3#8, 0xA9#8, 0x61#8, 0x62#8] = true ∧
        textLength .chars [0xC3#8, 0xA9#8, 0xC3#8, 0xA9#8, 0x61#8, 0x62#8] = 4) ∧
      ((withInput (bytesOf ⟨0x41#8, 0x62#8, 0x31#8, 0x64#8⟩) State.reset).IbufIs (bytesOf ⟨0x41#8, 0x62#8, 0x31#8, 0x64#8⟩) ∧
        utf8Valid (bytesOf ⟨0x41#8, 0x62#8, 0x31#8, 0x64#8⟩) = true ∧
        textLength .chars (bytesOf ⟨0x41#8, 0x62#8, 0x31#8, 0x64#8⟩) = 4 ∧
        allLetters ⟨0x41#8, 0x62#8, 0x31#8, 0x64#8⟩ = false) ∧
      ((withInput (bytesOf abCd) State.reset).IbufIs (bytesOf abCd) ∧ utf8Valid (bytesOf abCd) = true ∧ allLetters abCd = true) :=
  ⟨⟨withInput_is _ _ (by decide) (by decide), by decide, by decide⟩, ⟨withInput_is _ _ (by decide) (by decide), by decide, by decide⟩,
    ⟨withInput_is _ _ (by decide) (by decide), by decide, by decide, by decide⟩,
    ⟨withInput_is _ _ (by decide) (by decide), by decide, by decide⟩⟩

/-- TextConstructorAgreesWithByteConstructor: a run that succeeds. -/
theorem witness_fromText_succeeds :
    ∃ s', exec (.tcFromText .t1) (withInput (bytesOf abCd) State.reset) = .next s' ∧ s'.err = 0x00#8 :=
  next_of_field (f := State.err) (by decide)

/-- TcFromTextOnIllFormedText. -/
theorem witness_fromText_illFormed :
    (withInput [0xFF#8] State.reset).IbufIs [0xFF#8] ∧ utf8Valid [0xFF#8] = false :=
  ⟨withInput_is _ _ (by decide) (by decide), by decide⟩

/-- The statements of TC_BYTES to TC_EQUAL: a slot that holds a value, with an uppercase and a lowercase byte, and one that
holds none; the slot invariant; lawful parameters. -/
theorem witness_slot :
    (slotState.slot .t0).present = true ∧ (slotState.slot .t1).present = false ∧ (slotState.slot .t0).ok ∧ slotState.cfg.wf ∧
      (slotState.slot .t0).bytes.b0 = 0x41#8 ∧
      ((slotState.slot .t0).bytes.b3 = 0x64#8 ∧ 0x61#8 ≤ (slotState.slot .t0).bytes.b3 ∧ (slotState.slot .t0).bytes.b3 ≤ 0x7A#8) :=
  ⟨rfl, rfl, fun _ => by decide, by decide, rfl, by decide⟩

/-- TcEqualComparesBothSlots: both slots hold a value; one holds none (`witness_slot`). -/
theorem witness_two_slots :
    { slotState with tc1 := ⟨true, abCd⟩ }.tc0.present = true ∧ { slotState with tc1 := ⟨true, abCd⟩ }.tc1.present = true ∧
      slotState.tc1.present = false ∧ State.reset.tc0.present = false := ⟨rfl, rfl, rfl, rfl⟩

/-- CrcComputeReturnsCrcOfInput: the empty input, and one of seven bytes. -/
theorem witness_crcCompute :
    (withInput [] State.reset).IbufIs [] ∧
      (withInput [0x41#8, 0x62#8, 0x43#8, 0x64#8, 0x01#8, 0x02#8, 0x03#8] State.reset).IbufIs
        [0x41#8, 0x62#8, 0x43#8, 0x64#8, 0x01#8, 0x02#8, 0x03#8] :=
  ⟨withInput_is _ _ (by decide) (by decide), withInput_is _ _ (by decide) (by decide)⟩

/-- A block whose payloads hold at most three bytes, with TC[0] = "AbCd". -/
def smallState : State := { State.resetWith { payloadCap := 3, obufCap := 15, textUnit := .chars, base := 0 } with tc0 := ⟨true, abCd⟩ }

/-- ChunkNewBuildsRecord and DecodeAfterEncodeGivesTheRecord: a payload of exactly P_PAYLOAD_CAP bytes, one byte more, and an
empty slot. -/
theorem witness_chunkNew :
    (smallState.cfg.wf ∧ ((withInput [0x01#8, 0x02#8, 0x03#8] smallState).slot .t0).present = true ∧
        allLetters ((withInput [0x01#8, 0x02#8, 0x03#8] smallState).slot .t0).bytes = true ∧
        (withInput [0x01#8, 0x02#8, 0x03#8] smallState).IbufIs [0x01#8, 0x02#8, 0x03#8] ∧
        [0x01#8, 0x02#8, 0x03#8].length ≤ smallState.cfg.payloadCap) ∧
      ({ smallState with ibufLen := 4#64 }.cfg.payloadCap < { smallState with ibufLen := 4#64 }.ibufLen.toNat) ∧
      (smallState.slot .t1).present = false :=
  ⟨⟨by decide, rfl, by decide, withInput_is _ _ (by decide) (by decide), by decide⟩, by decide, rfl⟩

/-- DecodeAfterEncodeGivesTheRecord: a state s3 with the wire form in IBUF. -/
theorem witness_copied_back :
    (withInput bytesN1 smallState).cfg = smallState.cfg ∧ (withInput bytesN1 smallState).ibufLen = 15#64 ∧
      (withInput bytesN1 smallState).IbufIs bytesN1 :=
  ⟨rfl, rfl, withInput_is _ _ (by decide) (by decide)⟩

theorem recordN1_ok : recordN1.ok 3 := fun _ => ⟨rfl, by decide, by decide +kernel, by decide⟩

/-- The statements of the commands that read REC: a record that meets the invariant, at the capacity of its block, and none. -/
theorem witness_record :
    { smallState with record := recordN1 }.cfg.wf ∧ { smallState with record := recordN1 }.record.ok 3 ∧
      { smallState with record := recordN1 }.cfg.payloadCap = 3 ∧ recordN1.present = true ∧
      utf8Valid recordN1.payload = true ∧ smallState.record.present = false :=
  ⟨by decide, recordN1_ok, rfl, rfl, by decide, rfl⟩

/-- ChunkPayloadTextChecksUtf8: a payload that is not UTF-8. -/
theorem witness_record_notText : (recordOf [0xFF#8]).record.present = true ∧ utf8Valid (recordOf [0xFF#8]).record.payload = false :=
  ⟨rfl, by decide⟩

/-- ChunkDecodeRunsOrderedChecks: inputs that reach each check, the first of 11 bytes. -/
theorem witness_chunkDecode :
    ((withInput (List.replicate 11 0#8) State.reset).IbufIs (List.replicate 11 0#8) ∧ (List.replicate 11 0#8).length < 12) ∧
      ((withInput (List.replicate 13 0#8) State.reset).IbufIs (List.replicate 13 0#8) ∧
        (List.replicate 13 (0#8 : Byte)).length ≠ 12 + (be32 (bytes4At (List.replicate 13 0#8) 0)).toNat) ∧
      ((withInput (List.replicate 12 0#8) State.reset).IbufIs (List.replicate 12 0#8) ∧
        (List.replicate 12 (0#8 : Byte)).length = 12 + (be32 (bytes4At (List.replicate 12 0#8) 0)).toNat ∧
        allLetters (bytes4At (List.replicate 12 0#8) 4) = false) ∧
      ((withInput bytesN1 State.reset).IbufIs bytesN1 ∧ bytesN1.length = 12 + (be32 (bytes4At bytesN1 0)).toNat ∧
        allLetters (bytes4At bytesN1 4) = true ∧
        crc32 (bytesOf (bytes4At bytesN1 4) ++ (bytesN1.drop 8).take 3) = be32 (bytes4At bytesN1 11)) :=
  ⟨⟨withInput_is _ _ (by decide) (by decide), by decide⟩, ⟨withInput_is _ _ (by decide) (by decide), by decide⟩,
    ⟨withInput_is _ _ (by decide) (by decide), by decide, by decide⟩,
    ⟨withInput_is _ _ (by decide) (by decide), by decide, by decide, by decide +kernel⟩⟩

/-- ChunkDecodeRunsOrderedChecks: the S7 bytes with the last bit of the checksum changed. -/
theorem witness_chunkDecode_crc :
    (withInput (bytesN1.set 14 0x21#8) State.reset).IbufIs (bytesN1.set 14 0x21#8) ∧
      (bytesN1.set 14 0x21#8).length = 12 + (be32 (bytes4At (bytesN1.set 14 0x21#8) 0)).toNat ∧
      allLetters (bytes4At (bytesN1.set 14 0x21#8) 4) = true ∧
      crc32 (bytesOf (bytes4At (bytesN1.set 14 0x21#8) 4) ++ ((bytesN1.set 14 0x21#8).drop 8).take 3) ≠
        be32 (bytes4At (bytesN1.set 14 0x21#8) 11) :=
  ⟨withInput_is _ _ (by decide) (by decide), by decide, by decide, by decide +kernel⟩

/-- ChunkDecodeReadsOnlyNamedBytes: IBUF_LEN = 11 with nothing written, IBUF_LEN = 12 with only IBUF[0:4) written, and
IBUF_LEN = 12 with only IBUF[0:8) written, the last of them '@'. -/
theorem witness_named_bytes :
    { State.reset with ibufLen := 11#64 }.ibufLen.toNat < 12 ∧
      (let s : State := { State.reset with ibufLen := 12#64, ibuf := cells 0 [0#8, 0#8, 0#8, 1#8] }
       12 ≤ s.ibufLen.toNat ∧ s.IbufHolds 0 ⟨0#8, 0#8, 0#8, 1#8⟩ ∧ s.ibufLen.toNat ≠ 12 + (be32 ⟨0#8, 0#8, 0#8, 1#8⟩).toNat) ∧
      (let s : State :=
        { State.reset with ibufLen := 12#64, ibuf := cells 0 [0#8, 0#8, 0#8, 0#8, 0x41#8, 0x62#8, 0x43#8, 0x40#8] }
       s.IbufHolds 0 ⟨0#8, 0#8, 0#8, 0#8⟩ ∧ s.IbufHolds 4 ⟨0x41#8, 0x62#8, 0x43#8, 0x40#8⟩ ∧
         s.ibufLen.toNat = 12 + (be32 ⟨0#8, 0#8, 0#8, 0#8⟩).toNat ∧ allLetters ⟨0x41#8, 0x62#8, 0x43#8, 0x40#8⟩ = false) := by
  unfold State.IbufHolds
  decide

/-- EncodeAfterDecodeGivesTheBuffer: a decode that succeeds. -/
theorem witness_encode_after_decode :
    smallState.cfg.wf ∧ (withInput bytesN1 smallState).IbufIs bytesN1 ∧
      ∃ s1, exec .chunkDecode (withInput bytesN1 smallState) = .next s1 ∧ s1.err = 0x00#8 :=
  ⟨by decide, withInput_is _ _ (by decide) (by decide), next_of_field (f := State.err) (by decide +kernel)⟩

/-- DecodeAcceptsExactlyWireForms: an input on the left side, and its record on the right side. -/
theorem witness_wire_form : (decodeRecord bytesN1).result.toOption = some recordN1 ∧ bytesN1 = encodeRecord recordN1 := by decide +kernel

/-- CommandsKeepTheirInputs, OnlyConstructorsReplaceValues, OnlyResultCommandsWriteResults: commands that go on, one of each
kind; ErrorsChangeOnlyStatus: one that ends in an error. -/
theorem witness_exec_next :
    slotState.cfg.wf ∧ (∃ s', exec (.tcRender .t0) slotState = .next s' ∧ s'.err = 0x00#8) ∧
      (∃ s', exec (.chunkType .t1) recordState = .next s' ∧ s'.err = 0x00#8) ∧
      (∃ s', exec .chunkLength recordState = .next s' ∧ s'.err = 0x00#8) ∧
      (∃ s', exec .chunkLength slotState = .next s' ∧ s'.err = 0x81#8 ∧ s'.err ≠ 0x00#8) :=
  ⟨by decide, next_of_field (f := State.err) (by decide), next_of_field (f := State.err) (by decide),
    next_of_field (f := State.err) (by decide),
    by obtain ⟨s', h, he⟩ := next_of_field (f := State.err) (r := exec .chunkLength slotState) (v := 0x81#8) (by decide)
       exact ⟨s', h, he, by rw [he]; decide⟩⟩

/-- UnwrittenReadsAreLogged: IBUF_LEN = 12 with nothing written, TC[0] present, within the capacities. -/
theorem witness_unwritten :
    let s : State := { slotState with ibufLen := 12#64 }
    s.ibufLen.toNat ≤ s.cfg.ibufCap ∧ (∃ a, a < s.ibufLen.toNat ∧ s.ibuf.read? a = none) ∧ (s.slot .t0).present = true ∧
      s.ibufLen.toNat ≤ s.cfg.payloadCap ∧ 12 ≤ s.ibufLen.toNat ∧ (∃ a, a < 4 ∧ s.ibuf.read? a = none) :=
  ⟨by decide, ⟨11, by decide, rfl⟩, rfl, by decide, by decide, ⟨3, by decide, rfl⟩⟩

/-- UnwrittenReadsAreLogged, CHUNK_DECODE: the length fits and the last type byte is unwritten; the length fits, the type
is four letters and the last byte of the checksum is unwritten. -/
theorem witness_unwritten_decode :
    (let s : State := { State.reset with ibufLen := 12#64, ibuf := cells 0 [0#8, 0#8, 0#8, 0#8, 0x41#8, 0x62#8, 0x43#8] }
     s.ibufLen.toNat ≤ s.cfg.ibufCap ∧ s.IbufHolds 0 ⟨0#8, 0#8, 0#8, 0#8⟩ ∧
       s.ibufLen.toNat = 12 + (be32 ⟨0#8, 0#8, 0#8, 0#8⟩).toNat ∧ 7 < 8 ∧ s.ibuf.read? 7 = none) ∧
      (let s : State := { State.reset with ibufLen := 15#64, ibuf := cells 0 (bytesN1.take 14) }
       s.ibufLen.toNat ≤ s.cfg.ibufCap ∧ s.IbufHolds 0 ⟨0#8, 0#8, 0#8, 3#8⟩ ∧ s.IbufHolds 4 abCd ∧
         s.ibufLen.toNat = 12 + (be32 ⟨0#8, 0#8, 0#8, 3#8⟩).toNat ∧ allLetters abCd = true ∧
         14 < s.ibufLen.toNat ∧ s.ibuf.read? 14 = none) := by
  unfold State.IbufHolds
  decide

/-- A state that keeps the invariant, with a record and one byte of OBUF. -/
def busyFree : State := { smallState with record := recordN1, obuf := [(0, 0x41#8)], obufLen := 1#64 }

theorem busyFree_inv : busyFree.Inv := by
  refine ⟨by decide, rfl, by decide, by decide, by decide, ⟨by decide, by decide⟩, ⟨by decide, by decide⟩, fun a h => ?_,
    fun _ => by decide, fun h => ?_, recordN1_ok⟩
  · have : a = 0 := by
      have h' : a < 1 := h
      omega
    subst this
    rfl
  · cases h

/-- EveryStepKeepsTheInvariant, EveryStepKeepsMemoryCanonical and FaultLogOnlyGrows: a step that runs a command. -/
theorem witness_step :
    (busyFree.withFetchWord 32 0x11).Inv ∧ (busyFree.withFetchWord 32 0x11).ibuf.wf ∧ (busyFree.withFetchWord 32 0x11).obuf.wf ∧
      (∀ rest, (busyFree.withFetchWord 32 0x11).hostQ ≠ .reset :: rest) ∧
      (∃ s', step (busyFree.withFetchWord 32 0x11) = .next s' ∧ s'.res = 3#32) :=
  ⟨⟨busyFree_inv.cfg, rfl, busyFree_inv.err, busyFree_inv.ibufLen, busyFree_inv.obufLen, busyFree_inv.ibuf, busyFree_inv.obuf,
      busyFree_inv.obufHeld, busyFree_inv.tc0, busyFree_inv.tc1, busyFree_inv.record⟩,
    by decide, by decide, (by intro rest h; cases h), next_of_field (f := State.res) (by decide)⟩

/-- FaultLogOnlyGrows: a state whose refused mark is set, and a step of it. -/
theorem witness_marked :
    { busyFree with refusedMark := true }.refusedMark = true ∧
      ∃ s', step { busyFree with refusedMark := true } = .next s' ∧ s'.refusedMark = true :=
  ⟨rfl, next_of_field (f := State.refusedMark) (by decide)⟩

/-- ResetLeavesResetValues: a reset while BUSY = 1. -/
theorem witness_reset : { busyFree with busy := true, hostQ := [.reset] }.hostQ = [.reset] := rfl

/-- ResetMeetsTheInvariant: lawful parameters, the smallest OBUF for them. -/
theorem witness_params : smallState.cfg.wf ∧ smallState.cfg.obufCap = smallState.cfg.payloadCap + 12 := by decide

/-- LawfulStepsGoOn: the last lawful address and length, each access of a register, and no action. -/
theorem witness_lawful :
    lawful busyFree (.writeIbuf 14 0#8) ∧ lawful busyFree (.readObuf 14) ∧ lawful busyFree (.writeReg 0x10 (.w64 15#64)) ∧
      lawful busyFree (.writeReg 0x04 (.w32 0#32)) ∧ lawful busyFree (.readReg 0x18 .w64) ∧ lawful busyFree .reset ∧
      busyFree.hostQ = [] := by
  refine ⟨by simp only [lawful]; decide, by simp only [lawful]; decide, ⟨by decide, ?_⟩, ⟨by decide, ?_⟩, by simp only [lawful]; decide, trivial, rfl⟩
  · intro d _ h
    cases h
    decide
  · intro d h _
    cases h

/-- UnlawfulActionsAreRefused: the first unlawful address and length, a misaligned, a partial and a reserved register access. -/
theorem witness_unlawful :
    busyFree.busy = false ∧ ¬ lawful busyFree (.writeIbuf 15 0#8) ∧ ¬ lawful busyFree (.readObuf 15) ∧
      ¬ lawful busyFree (.writeReg 0x10 (.w64 16#64)) ∧ ¬ lawful busyFree (.readReg 0x1A .w32) ∧
      ¬ lawful busyFree (.readReg 0x10 .w32) ∧ ¬ lawful busyFree (.readReg 0x20 .w32) := by
  refine ⟨rfl, by simp only [lawful]; decide, by simp only [lawful]; decide, fun h => ?_, by simp only [lawful]; decide, by simp only [lawful]; decide,
    by simp only [lawful]; decide⟩
  exact absurd (h.2 16#64 rfl rfl) (by decide)

/-- HiddenStateIsNeverObserved: two states that differ in CRC_ACC and the step index, a step that goes on, one that
faults and one that is refused. -/
theorem witness_hidden :
    sameButHidden slotState { slotState with crcAcc := 1#32, stepIndex := 1 } ∧ step slotState = .next slotState ∧
      step ({ State.reset with ibufLen := 0x200000000#64 }.withFetchWord 32 0x20) = .fault .ibufAddress ∧
      ∃ r, step { slotState with hostQ := [.readReg 0x0A .w32] } = .refused r :=
  ⟨rfl, rfl, rfl, ⟨_, rfl⟩⟩

/-- EngineWaitsOrCompletes: an idle block, and one that shows BUSY = 1. -/
theorem witness_engine :
    busyFree.hostQ = [] ∧ busyFree.busy = false ∧ { busyFree with busy := true }.hostQ = [] ∧
      { busyFree with busy := true }.busy = true ∧ { { busyFree with busy := true } with busy := false }.Inv :=
  ⟨rfl, rfl, rfl, rfl, busyFree_inv⟩

/-- RegisterReadsReturnTheRegister and RegisterWritesWriteOrAreIgnored: each access at the head of the queue of an idle
block, IBUF_LEN at its greatest value. -/
theorem witness_registers :
    { busyFree with hostQ := [.readReg 0x00 .w32] }.busy = false ∧
      { busyFree with hostQ := [.readReg 0x18 .w64] }.hostQ = [.readReg 0x18 .w64] ∧
      { busyFree with hostQ := [.writeReg 0x08 (.w32 5#32)] }.hostQ = [.writeReg 0x08 (.w32 5#32)] ∧
      { busyFree with hostQ := [.writeReg 0x10 (.w64 15#64)] }.hostQ = [.writeReg 0x10 (.w64 15#64)] ∧
      (15#64).toNat ≤ busyFree.cfg.ibufCap := ⟨rfl, rfl, rfl, rfl, by decide⟩

/-- IbufWriteWritesOneByte and ObufReadReturnsTheByte: the last address of each buffer; a byte below OBUF_LEN, and the first
at it. -/
theorem witness_buffers :
    busyFree.busy = false ∧ 14 < busyFree.cfg.ibufCap ∧ 14 < busyFree.cfg.obufCap ∧
      (0 < busyFree.obufLen.toNat ∧ busyFree.obuf.read? 0 = some 0x41#8) ∧ busyFree.obufLen.toNat ≤ 1 ∧
      busyFree.obufLen.toNat ≤ 14 := by decide

/-- ReadsAreIdempotent: OBUF at OBUF_LEN, with nothing between, and with a write of IBUF, one of ARG and a read of RES
between; ARG, with a write of IBUF_LEN between, which does not overwrite it as a write of ARG does. -/
theorem witness_idempotent :
    busyFree.busy = false ∧ (isRead (.readObuf 1) ∧ lawful busyFree (.readObuf 1) ∧ busyFree.obufLen.toNat ≤ 1) ∧
      (∀ op ∈ [.writeIbuf 14 0#8, .writeReg 0x08 (.w32 5#32), .readReg 0x0C .w32],
        quiet op ∧ lawful busyFree op ∧ ¬ overwrites op (.readObuf 1)) ∧
      { busyFree with hostQ := [.readObuf 1, .writeIbuf 14 0#8, .writeReg 0x08 (.w32 5#32), .readReg 0x0C .w32, .readObuf 1] }.hostQ =
        HostOp.readObuf 1 :: ([.writeIbuf 14 0#8, .writeReg 0x08 (.w32 5#32), .readReg 0x0C .w32] ++ HostOp.readObuf 1 :: []) ∧
      (isRead (.readReg 0x08 .w32) ∧ lawful busyFree (.readReg 0x08 .w32) ∧ quiet (.writeReg 0x10 (.w64 15#64)) ∧
        ¬ overwrites (.writeReg 0x10 (.w64 15#64)) (.readReg 0x08 .w32) ∧
        overwrites (.writeReg 0x08 (.w32 5#32)) (.readReg 0x08 .w32)) := by
  refine ⟨rfl, ⟨trivial, by simp only [lawful]; decide, by decide⟩, ?_, rfl, trivial, by simp only [lawful]; decide,
    by simp [quiet], ?_, ⟨0x08, _, _, rfl, rfl, .inl rfl⟩⟩
  · intro op h
    refine ⟨?_, ?_, ?_⟩
    · simp only [List.mem_cons, List.not_mem_nil, or_false] at h
      rcases h with rfl | rfl | rfl <;> simp [quiet]
    · simp only [List.mem_cons, List.not_mem_nil, or_false] at h
      rcases h with rfl | rfl | rfl
      · simp only [lawful]
        decide
      · exact ⟨by decide, by intro d h _; cases h⟩
      · simp only [lawful]
        decide
    · rintro ⟨_, _, _, _, h, _⟩
      cases h
  · rintro ⟨_, _, _, h, h', _⟩
    cases h
    cases h'

/-- WritesWhileBusyAreRefused and ReadsWhileBusy: BUSY = 1 with each access next, lengths and addresses at their ends. -/
theorem witness_busy :
    { busyFree with busy := true }.busy = true ∧
      { busyFree with busy := true, hostQ := [.writeReg 0x00 (.w32 0x11#32)] }.hostQ = [.writeReg 0x00 (.w32 0x11#32)] ∧
      (15#64).toNat ≤ { busyFree with busy := true, hostQ := [.writeReg 0x10 (.w64 15#64)] }.cfg.ibufCap ∧
      14 < { busyFree with busy := true, hostQ := [.writeIbuf 14 0#8] }.cfg.ibufCap ∧
      14 < { busyFree with busy := true, hostQ := [.readObuf 14] }.cfg.obufCap ∧
      { busyFree with busy := true, hostQ := [.readReg 0x0C .w32] }.hostQ = [.readReg 0x0C .w32] :=
  ⟨rfl, rfl, by decide, by decide, by decide, rfl⟩

end Sys2Proof.Tests
end

section
/-! PROOFS. The functions of 00_scope.md: big-endian packing (R10) and the letter classes (R12). -/

namespace Sys2Proof.Machine

/-! ### Big-endian packing -/

/-- Appending a byte shifts the bytes before it up by 8, so each byte has its positional weight (R10). -/
theorem be32_toNat (b : Bytes4) :
    (be32 b).toNat = b.b0.toNat * 2 ^ 24 + b.b1.toNat * 2 ^ 16 + b.b2.toNat * 2 ^ 8 + b.b3.toNat := by
  have append_byte : ∀ {n : Nat} (hi : BitVec n) (lo : Byte), (hi ++ lo).toNat = hi.toNat * 2 ^ 8 + lo.toNat := by
    intro n hi lo
    rw [BitVec.toNat_append, ← Nat.shiftLeft_add_eq_or_of_lt lo.isLt, Nat.shiftLeft_eq]
  simp only [be32, append_byte]
  omega

/-- Byte i of `be32bytes v` is the digit of weight 2^(24 − 8i) of v in base 256 (R10). -/
theorem be32bytes_toNat (v : Word) :
    (be32bytes v).b0.toNat = v.toNat / 2 ^ 24 % 2 ^ 8 ∧ (be32bytes v).b1.toNat = v.toNat / 2 ^ 16 % 2 ^ 8 ∧
      (be32bytes v).b2.toNat = v.toNat / 2 ^ 8 % 2 ^ 8 ∧ (be32bytes v).b3.toNat = v.toNat % 2 ^ 8 := by
  simp [be32bytes, Nat.shiftRight_eq_div_pow]

/-- A number has one representation in base 256: the four digits of the packed value are the four bytes. -/
@[simp] theorem be32bytes_be32 (b : Bytes4) : be32bytes (be32 b) = b := by
  obtain ⟨h0, h1, h2, h3⟩ := be32bytes_toNat (be32 b)
  rw [be32_toNat] at h0 h1 h2 h3
  rw [Bytes4.mk.injEq]
  refine ⟨?_, ?_, ?_, ?_⟩ <;> apply BitVec.eq_of_toNat_eq <;> omega

/-- A word is the sum of its four digits in base 256, each with its weight. -/
@[simp] theorem be32_be32bytes (v : Word) : be32 (be32bytes v) = v := by
  obtain ⟨h0, h1, h2, h3⟩ := be32bytes_toNat v
  apply BitVec.eq_of_toNat_eq
  rw [be32_toNat]
  omega

/-- Settles O41, from the positional value of `be32` and the two round trips. -/
theorem bigEndianPacking : Obligations.BigEndianPacking :=
  ⟨be32_toNat, be32bytes_be32, be32_be32bytes⟩

/-! ### Letter classes -/

theorem upper_iff (b : Byte) : upper b = true ↔ 0x41 ≤ b.toNat ∧ b.toNat ≤ 0x5A := by
  simp [upper, BitVec.le_def]

theorem lower_iff (b : Byte) : lower b = true ↔ 0x61 ≤ b.toNat ∧ b.toNat ≤ 0x7A := by
  simp [lower, BitVec.le_def]

theorem letter_iff (b : Byte) : letter b = true ↔ upper b = true ∨ lower b = true :=
  Bool.or_eq_true_iff

/-- Settles O42, from the range of each class. -/
theorem letterClasses : Obligations.LetterClasses :=
  fun b => ⟨upper_iff b, lower_iff b, letter_iff b⟩

end Sys2Proof.Machine
end

section
/-! PROOFS. Everything a step can do, said once: `step_effect` takes apart a step that answers a next state, as `exec_effect`
does for a command. -/

namespace Sys2Proof.Machine

/-- Everything that a host action can have done to a block that goes on (20_memory.md R50 to R56). -/
inductive HostEffect (op : HostOp) (s s' : State) : Prop
  | ran (w : Word) (h : runCommand (s.latch w) = .next s')
  | ignored (h : s' = s)
  | argWritten (v : Word) (h : s' = { s with arg := v })
  | ibufLenWritten (v : Dword) (hv : v.toNat ≤ s.cfg.ibufCap) (h : s' = { s with ibufLen := v })
  | ibufWritten (a : Nat) (b : Byte) (ha : a < s.cfg.ibufCap) (h : s' = { s with ibuf := s.ibuf.write a b })
  | replied (r : Reply) (h : s' = s.reply r)
  /-- A result was read while BUSY = 1 (70_reset_and_hazards.md R244). -/
  | readBusy (r : Reply) (hb : s.busy = true) (h : s' = (s.reply r).markRefused.drawOne)
  | readBeyond (r : Reply) (h : s' = (s.reply r).logFault .obufBeyondLen)
  | wasReset (hop : op = .reset)
      (h : s' = { State.resetWith s.cfg with hostQ := s.hostQ, replies := s.replies, draws := s.draws + 1 })

/-- Everything that a step that goes on can have done. -/
inductive StepEffect (s s' : State) : Prop
  | waited (h : s' = s)
  | completed (hb : s.busy = true) (h : runCommand s = .next s')
  | acted (op : HostOp) (rest : List HostOp) (hq : s.hostQ = op :: rest) (h : HostEffect op { s with hostQ := rest } s')

theorem next_of_unlessBusy {s s' : State} {r : Result} (h : unlessBusy s r = .next s') : r = .next s' := by
  rcases unlessBusy_cases s r with ⟨_, h2⟩ | ⟨_, h2⟩ <;> rw [h2] at h
  · exact h
  · cases h

theorem readResult_effect {op : HostOp} {s s' : State} {v busyValue : Reply} (h : readResult s v busyValue = .next s') :
    HostEffect op s s' := by
  rcases readResult_cases s v busyValue with ⟨_, h2⟩ | ⟨hb, h2⟩ <;> rw [h2] at h <;> cases h
  · exact .replied v rfl
  · exact .readBusy busyValue hb rfl

theorem writeIbufLen_effect {op : HostOp} {s s' : State} {v : Dword} (h : writeIbufLen v s = .next s') :
    HostEffect op s s' := by
  unfold writeIbufLen at h
  split at h
  · cases h
  · cases next_of_unlessBusy h
    exact .ibufLenWritten v (by omega) rfl

theorem hostWriteReg_effect {op : HostOp} {s s' : State} {off : Nat} {v : AccessData}
    (h : hostWriteReg off v s = .next s') : HostEffect op s s' := by
  unfold hostWriteReg at h
  split at h
  case h_1 w => exact .ran w (next_of_unlessBusy h)
  case h_3 w => cases next_of_unlessBusy h; exact .argWritten w rfl
  case h_5 => exact writeIbufLen_effect h
  case h_7 => cases h
  all_goals cases h; exact .ignored rfl

theorem hostReadReg_effect {op : HostOp} {s s' : State} {off : Nat} {width : AccessWidth}
    (h : hostReadReg off width s = .next s') : HostEffect op s s' := by
  unfold hostReadReg at h
  split at h
  case h_4 | h_6 => exact readResult_effect h
  case h_7 => cases h
  all_goals cases h; exact .replied _ rfl

theorem hostWriteIbuf_effect {op : HostOp} {s s' : State} {a : Nat} {b : Byte} (h : hostWriteIbuf a b s = .next s') :
    HostEffect op s s' := by
  unfold hostWriteIbuf at h
  split at h
  · cases h
  · cases next_of_unlessBusy h
    exact .ibufWritten a b (by omega) rfl

theorem hostReadObuf_effect {op : HostOp} {s s' : State} {a : Nat} (h : hostReadObuf a s = .next s') :
    HostEffect op s s' := by
  rcases hostReadObuf_cases a s with ⟨_, h2⟩ | ⟨_, hb, h2⟩ | ⟨_, _, _, h2⟩ | ⟨_, _, _, h2⟩ <;> rw [h2] at h <;> cases h
  · exact .readBusy _ hb rfl
  · exact .replied _ rfl
  · exact .readBeyond _ rfl

theorem hostAct_effect {op : HostOp} {s s' : State} (h : hostAct op s = .next s') : HostEffect op s s' := by
  cases op with
  | writeReg off v => exact hostWriteReg_effect h
  | readReg off width => exact hostReadReg_effect h
  | writeIbuf a b => exact hostWriteIbuf_effect h
  | readObuf a => exact hostReadObuf_effect h
  | reset => cases h; exact .wasReset rfl rfl

theorem step_effect {s s' : State} (h : step s = .next s') : StepEffect s s' := by
  unfold step stepState at h
  split at h
  next =>
    unfold engineAct at h
    split at h
    · exact .completed ‹_› h
    · cases h; exact .waited rfl
  next op rest hq => exact .acted op rest hq (hostAct_effect h)

/-- A latched word that goes on either is illegal, which is logged, or has the effect of its command. -/
theorem runCommand_effect {s s' : State} (h : runCommand s = .next s') :
    s' = (s.logFault .illegalCommand).complete .illegalCommand ∨ ∃ i, ExecEffect i s s' := by
  rcases runCommand_cases s with ⟨_, _, h2⟩ | ⟨i, _, h2⟩ <;> rw [h2] at h
  · cases h; exact .inl rfl
  · exact .inr ⟨i, exec_effect i s s' h⟩

end Sys2Proof.Machine
end

section
/-! PROOFS. The parts of the state that a command may write (10_state.md R25 to R32), and what every step keeps of the
buffers and of the fault log (R36, R38). -/

namespace Sys2Proof.Machine

variable {i : Instr} {s s' : State}

/-! ### Slots, REC and RES -/

/-- Building TC[t] replaces that slot by one that is present, and no other. -/
theorem slot_setSlot_cases (b : State) (t u : SlotIx) (v : Bytes4) (e : ErrCode) :
    ((b.setSlot t v).complete e).slot u = b.slot u ∨ (t = u ∧ (((b.setSlot t v).complete e).slot u).present = true) := by
  have hslot : ((b.setSlot t v).complete e).slot u = if t = u then { present := true, bytes := v } else b.slot u :=
    b.setSlot_slot t u v
  rw [hslot]
  split
  · exact .inr ⟨‹_›, rfl⟩
  · exact .inl rfl

theorem ExecEffect.slot_cases (h : ExecEffect i s s') (u : SlotIx) :
    s'.slot u = s.slot u ∨
      ((s'.slot u).present = true ∧ (i = .tcFromBytes u ∨ i = .tcFromText u ∨ i = .chunkType u)) := by
  cases h with
  | slotBuilt t b v hi _ hb h =>
    obtain ⟨l, m, rfl⟩ := hb
    subst h
    rcases slot_setSlot_cases _ t u v .ok with hs | ⟨rfl, hp⟩
    · exact .inl hs
    · exact .inr ⟨hp, hi.imp_right .inl⟩
  | typeCopied t hi _ h =>
    subst h
    rcases slot_setSlot_cases s t u s.record.type .ok with hs | ⟨rfl, hp⟩
    · exact .inl hs
    · exact .inr ⟨hp, .inr (.inr hi)⟩
  | scalar v _ h => exact .inl (by rw [h]; rfl)
  | output n bs _ _ h => exact .inl (by rw [h]; rfl)
  | ended b _ hb h | computed b _ _ _ hb h | recordBuilt _ b _ _ _ _ hb h | recordDecoded b _ _ _ _ _ hb h =>
    obtain ⟨l, m, rfl⟩ := hb
    exact .inl (by rw [h]; rfl)

/-- What the decode chain has checked of a record that it accepts (43_chunk_record.md R169). -/
theorem decodeRecord_ok {buf : List Byte} {r : Record} (h : (decodeRecord buf).result = .ok r) :
    r.present = true ∧ buf.length = 12 + r.len.toNat ∧ allLetters r.type = true ∧
      r.payload = slice buf 8 r.len.toNat ∧ r.crc = crc32 (crcMessage r.type r.payload) ∧
      (decodeRecord buf).nread = buf.length := by
  rcases decodeRecord_cases buf with
    ⟨_, h2⟩ | ⟨_, _, h2⟩ | ⟨_, _, h2⟩ | ⟨_, _, _, h2⟩ | ⟨hlen, htype, hcrc, h2⟩ <;> rw [h2] at h ⊢ <;> cases h
  exact ⟨rfl, hlen, htype, rfl, hcrc.symm, rfl⟩

theorem ExecEffect.record_cases (h : ExecEffect i s s') :
    s'.record = s.record ∨ (s'.record.present = true ∧ ((∃ t, i = .chunkNew t) ∨ i = .chunkDecode)) := by
  cases h with
  | recordBuilt t b c hi _ _ _ h => exact .inr ⟨by rw [h]; rfl, .inl ⟨t, hi⟩⟩
  | recordDecoded b r c hi hr _ _ h => exact .inr ⟨by rw [h]; exact (decodeRecord_ok hr).1, .inr hi⟩
  | typeCopied t _ _ h => exact .inl (by simp [h])
  | scalar v _ h => exact .inl (by rw [h]; rfl)
  | output n bs _ _ h => exact .inl (by rw [h]; rfl)
  | ended b _ hb h | slotBuilt _ b _ _ _ hb h | computed b _ _ _ hb h =>
    obtain ⟨l, m, rfl⟩ := hb
    exact .inl (by simp [h])

/-- Settles O37, from what a command that goes on does to the slots and to REC. -/
theorem onlyConstructorsReplaceValues : Obligations.OnlyConstructorsReplaceValues := fun i s s' h =>
  ⟨(exec_effect i s s' h).slot_cases, (exec_effect i s s' h).record_cases⟩

theorem ExecEffect.res_cases (h : ExecEffect i s s') :
    s'.res = s.res ∨ (s'.err = 0x00#8 ∧ (scalarCommand i = true ∨ i = .crcCompute)) := by
  cases h with
  | scalar v hi h => exact .inr ⟨by rw [h]; rfl, .inl hi⟩
  | computed b v c hi _ h => exact .inr ⟨by rw [h]; rfl, .inr hi⟩
  | typeCopied t _ _ h => exact .inl (by simp [h])
  | output n bs _ _ h => exact .inl (by rw [h]; rfl)
  | ended b _ hb h | slotBuilt _ b _ _ _ hb h | recordBuilt _ b _ _ _ _ hb h | recordDecoded b _ _ _ _ _ hb h =>
    obtain ⟨l, m, rfl⟩ := hb
    exact .inl (by simp [h])

/-! ### IBUF, OBUF and OBUF_LEN -/

theorem ExecEffect.obuf_cases (h : ExecEffect i s s') :
    (s'.obufLen = s.obufLen ∧ s'.obuf = s.obuf) ∨
      (∃ n bs, OutputOf s i n bs ∧ n ≤ s.cfg.obufCap ∧ s' = (s.storeObuf n bs).complete .ok) := by
  cases h with
  | output n bs ho hn h => exact .inr ⟨n, bs, ho, hn, h⟩
  | typeCopied t _ _ h => exact .inl (by simp [h])
  | scalar v _ h => exact .inl (by simp [h])
  | ended b _ hb h | slotBuilt _ b _ _ _ hb h | computed b _ _ _ hb h | recordBuilt _ b _ _ _ _ hb h
  | recordDecoded b _ _ _ _ _ hb h =>
    obtain ⟨l, m, rfl⟩ := hb
    exact .inl (by simp [h])

/-- Lawful parameters let the 64-bit OBUF_LEN hold every length up to P_OBUF_CAP (log 4). -/
theorem toNat_obufLen_storeObuf {n : Nat} {bs : List Byte} (hcfg : s.cfg.wf) (hn : n ≤ s.cfg.obufCap) :
    (s.storeObuf n bs).obufLen.toNat = n :=
  Nat.mod_eq_of_lt (lt_of_le_of_lt hn hcfg.2.2)

/-- A byte string written from address 0 leaves every byte at or beyond its length. -/
theorem read_storeObuf_of_le {n a : Nat} {bs : List Byte} (h : n ≤ a) :
    (s.storeObuf n bs).obuf.read? a = s.obuf.read? a := by
  have : (bs.take n).length ≤ n := List.length_take_le n bs
  rw [State.storeObuf_obuf, Memory.read_writeBytes, if_neg (by omega)]

/-- Settles O38: RES and OBUF are written by the effects `scalar`, `computed` and `output` alone, and these report no error. -/
theorem onlyResultCommandsWriteResults : Obligations.OnlyResultCommandsWriteResults := by
  intro i s s' hcfg h
  have he := exec_effect i s s' h
  refine ⟨fun hi => ?_, ?_⟩
  · rcases he.res_cases with hres | ⟨herr, hres⟩
    · exact hres
    · exfalso
      rcases hi with hi | hi
      · exact hi herr
      · cases i <;> simp [scalarCommand] at hres hi
  · rcases he.obuf_cases with ⟨hlen, hbuf⟩ | ⟨n, bs, ho, hn, rfl⟩
    · exact ⟨fun _ => ⟨hlen, fun a => by rw [hbuf]⟩, fun a _ => by rw [hbuf]⟩
    · refine ⟨fun hi => ?_, fun a ha => read_storeObuf_of_le ?_⟩
      · exfalso
        rcases hi with hi | hi
        · exact hi rfl
        · cases ho <;> simp at hi
      · rwa [State.complete_obufLen, toNat_obufLen_storeObuf hcfg hn] at ha

/-! ### The canonical form of the buffers -/

/-- No command writes IBUF (20_memory.md R69). -/
theorem ExecEffect.ibuf_eq (h : ExecEffect i s s') : s'.ibuf = s.ibuf := by
  cases h with
  | output n bs _ _ h => simp [h]
  | typeCopied t _ _ h => simp [h]
  | scalar v _ h => simp [h]
  | ended b _ hb h | slotBuilt _ b _ _ _ hb h | computed b _ _ _ hb h | recordBuilt _ b _ _ _ _ hb h
  | recordDecoded b _ _ _ _ _ hb h =>
    obtain ⟨l, m, rfl⟩ := hb
    simp [h]

theorem ExecEffect.keeps_obuf_wf (h : ExecEffect i s s') (ho : s.obuf.wf) : s'.obuf.wf := by
  rcases h.obuf_cases with ⟨_, hobuf⟩ | ⟨n, bs, _, _, rfl⟩
  · rwa [hobuf]
  · exact Memory.writeBytes_wf (bs.take n) s.obuf 0 ho

theorem runCommand_keeps_memory_wf (h : runCommand s = .next s') (hi : s.ibuf.wf) (ho : s.obuf.wf) :
    s'.ibuf.wf ∧ s'.obuf.wf := by
  rcases runCommand_effect h with rfl | ⟨i, he⟩
  · exact ⟨hi, ho⟩
  · exact ⟨by rwa [he.ibuf_eq], he.keeps_obuf_wf ho⟩

theorem HostEffect.keeps_memory_wf {op : HostOp} (h : HostEffect op s s') (hi : s.ibuf.wf) (ho : s.obuf.wf) :
    s'.ibuf.wf ∧ s'.obuf.wf := by
  cases h with
  | ran w h => exact runCommand_keeps_memory_wf (s := s.latch w) h hi ho
  | ibufWritten a b _ h => subst h; exact ⟨Memory.write_wf _ a b hi, ho⟩
  | wasReset _ h => subst h; exact State.reset_memory_wf s.cfg
  | ignored h | argWritten _ h | ibufLenWritten _ _ h | replied _ h | readBusy _ _ h | readBeyond _ h =>
    subst h; exact ⟨hi, ho⟩

/-- Settles O48: a step writes a buffer by `Memory.write` alone, which keeps the canonical form, or empties it. -/
theorem everyStepKeepsMemoryCanonical : Obligations.EveryStepKeepsMemoryCanonical := by
  intro s s' hi ho h
  cases step_effect h with
  | waited h => subst h; exact ⟨hi, ho⟩
  | completed _ h => exact runCommand_keeps_memory_wf h hi ho
  | acted op rest _ h => exact h.keeps_memory_wf hi ho

/-! ### The fault log and the refused mark -/

/-- Entries were added at the end of the fault log, and the refused mark was set or left (10_state.md R38). -/
def BookGrows (s s' : State) : Prop :=
  (∃ l, s'.faultLog = s.faultLog ++ l) ∧ (s.refusedMark = true → s'.refusedMark = true)

theorem BookGrows.of_same (hl : s'.faultLog = s.faultLog) (hm : s'.refusedMark = s.refusedMark) : BookGrows s s' :=
  ⟨⟨[], by simp [hl]⟩, fun h => hm.trans h⟩

theorem Booked.grows (h : Booked s s') : BookGrows s s' := by
  obtain ⟨l, m, rfl⟩ := h
  exact ⟨⟨l, rfl⟩, fun h => by simp [h]⟩

theorem ExecEffect.bookGrows (h : ExecEffect i s s') : BookGrows s s' := by
  cases h with
  | output n bs _ _ h => exact .of_same (by simp [h]) (by simp [h])
  | typeCopied t _ _ h => exact .of_same (by simp [h]) (by simp [h])
  | scalar v _ h => exact .of_same (by simp [h]) (by simp [h])
  | ended b _ hb h | slotBuilt _ b _ _ _ hb h | computed b _ _ _ hb h | recordBuilt _ b _ _ _ _ hb h
  | recordDecoded b _ _ _ _ _ hb h =>
    simpa [h, BookGrows] using hb.grows

theorem runCommand_bookGrows (h : runCommand s = .next s') : BookGrows s s' := by
  rcases runCommand_effect h with rfl | ⟨i, he⟩
  · exact (Booked.log s .illegalCommand).grows
  · exact he.bookGrows

theorem HostEffect.bookGrows {op : HostOp} (h : HostEffect op s s') (hop : op ≠ .reset) : BookGrows s s' := by
  cases h with
  | ran w h => exact runCommand_bookGrows (s := s.latch w) h
  | readBusy r _ h => subst h; exact ⟨⟨[], by simp⟩, fun _ => rfl⟩
  | readBeyond r h => subst h; exact (Booked.log s .obufBeyondLen).grows
  | wasReset h _ => exact absurd h hop
  | ignored h | argWritten _ h | ibufLenWritten _ _ h | ibufWritten _ _ _ h | replied _ h => subst h; exact .of_same rfl rfl

/-- Settles O51: every effect of a step but that of a reset adds to the bookkeeping only. -/
theorem faultLogOnlyGrows : Obligations.FaultLogOnlyGrows := by
  intro s s' h hq
  cases step_effect h with
  | waited h => subst h; exact BookGrows.of_same rfl rfl
  | completed _ h => exact runCommand_bookGrows h
  | acted op rest hop h =>
    have hne : op ≠ .reset := fun hr => hq rest (hr ▸ hop)
    exact HostEffect.bookGrows (s := { s with hostQ := rest }) h hne

end Sys2Proof.Machine
end

section
/-! PROOFS. The invariant of the block (10_state.md R21, R29, R31, 60_exceptions.md R211, 70_reset_and_hazards.md R247): it
holds after reset, and every step keeps it. -/

namespace Sys2Proof.Machine

/-- The part of the invariant that holds while a command runs too: all of it but STATUS. -/
structure State.Held (s : State) : Prop where
  cfg : s.cfg.wf
  ibufLen : s.ibufLen.toNat ≤ s.cfg.ibufCap
  obufLen : s.obufLen.toNat ≤ s.cfg.obufCap
  ibuf : s.ibuf.within s.cfg.ibufCap
  obuf : s.obuf.within s.cfg.obufCap
  obufHeld : ∀ a, a < s.obufLen.toNat → (s.obuf.read? a).isSome = true
  tc0 : s.tc0.ok
  tc1 : s.tc1.ok
  record : s.record.ok s.cfg.payloadCap

variable {i : Instr} {s s' : State}

theorem State.Inv.held (h : s.Inv) : s.Held :=
  ⟨h.cfg, h.ibufLen, h.obufLen, h.ibuf, h.obuf, h.obufHeld, h.tc0, h.tc1, h.record⟩

theorem State.Held.inv (h : s.Held) (hb : s.busy = false) (he : s.err ∈ listedErrs) : s.Inv :=
  ⟨h.cfg, hb, he, h.ibufLen, h.obufLen, h.ibuf, h.obuf, h.obufHeld, h.tc0, h.tc1, h.record⟩

theorem errByte_listed (e : ErrCode) : errByte e ∈ listedErrs := by cases e <;> decide

/-! ### What each update keeps -/

/-- The other registers, the bookkeeping and the host's side are free. -/
theorem State.Held.of_same (h : s.Held)
    (hs : s' = { s with
      cmd := s'.cmd, err := s'.err, busy := s'.busy, arg := s'.arg, res := s'.res, crcAcc := s'.crcAcc,
      stepIndex := s'.stepIndex, faultLog := s'.faultLog, refusedMark := s'.refusedMark, hostQ := s'.hostQ,
      replies := s'.replies, draws := s'.draws }) : s'.Held := by
  rw [hs]
  exact ⟨h.cfg, h.ibufLen, h.obufLen, h.ibuf, h.obuf, h.obufHeld, h.tc0, h.tc1, h.record⟩

/-- A command ends with BUSY = 0 and a listed code, whatever it is (30_encoding.md R95). -/
theorem State.Held.complete (h : s.Held) (e : ErrCode) : (s.complete e).Inv :=
  (h.of_same rfl).inv rfl (errByte_listed e)

theorem State.Held.booked {b : State} (h : s.Held) (hb : Booked s b) : b.Held := by
  obtain ⟨l, m, rfl⟩ := hb
  exact h.of_same rfl

theorem State.Held.slot (h : s.Held) (t : SlotIx) : (s.slot t).ok := by
  cases t
  · exact h.tc0
  · exact h.tc1

theorem State.Held.setSlot (h : s.Held) (t : SlotIx) {v : Bytes4} (hv : allLetters v = true) : (s.setSlot t v).Held := by
  cases t
  · exact { h with tc0 := fun _ => hv }
  · exact { h with tc1 := fun _ => hv }

theorem State.Held.setRecord (h : s.Held) {r : Record} (hr : r.fieldsOk s.cfg.payloadCap) : (s.setRecord r).Held :=
  { h with record := fun _ => hr }

theorem State.Held.writeIbuf (h : s.Held) {a : Nat} (ha : a < s.cfg.ibufCap) (b : Byte) :
    { s with ibuf := s.ibuf.write a b }.Held :=
  { h with ibuf := Memory.write_within _ a _ b h.ibuf ha }

/-- OBUF stays within its capacity, and every byte below the new OBUF_LEN is one of those just written. -/
theorem State.Held.storeObuf (h : s.Held) {n : Nat} {bs : List Byte} (hn : n ≤ s.cfg.obufCap) (hlen : bs.length = n) :
    (s.storeObuf n bs).Held := by
  have htoNat := toNat_obufLen_storeObuf (bs := bs) h.cfg hn
  have htake : bs.take n = bs := List.take_of_length_le hlen.le
  refine { h with obufLen := ?_, obuf := ?_, obufHeld := fun a ha => ?_ }
  · rw [htoNat]; exact hn
  · exact Memory.writeBytes_within _ _ 0 _ h.obuf (by rw [htake, Nat.zero_add, hlen]; exact hn)
  · rw [htoNat] at ha
    rw [State.storeObuf_obuf, htake, Memory.read_writeBytes, if_pos (by omega)]
    simp; omega

/-! ### The values that commands build -/

theorem OutputOf.length_eq {n : Nat} {bs : List Byte} (ho : OutputOf s i n bs) (h : s.Held) : bs.length = n := by
  cases ho with
  | payload hp | payloadText hp _ => exact (h.record hp).len.symm
  | wire hp => simp [encodeRecord, bytesOf, (h.record hp).len]; omega
  | rendering _ => rfl
  | typeCode t _ => rfl

/-- A record built from letters and a payload that fits keeps the record invariant (43_chunk_record.md R160). -/
theorem newRecord_fieldsOk {type : Bytes4} {payload : List Byte} {n cap : Nat} (ht : allLetters type = true)
    (hlen : payload.length = n) (hn : n ≤ cap) (hcap : cap ≤ 2 ^ 32 - 1) : (newRecord type payload n).fieldsOk cap where
  len := by simp only [newRecord, BitVec.toNat_ofNat]; omega
  type := ht
  crc := rfl
  fits := hlen.trans_le hn

/-- A record that the decode chain accepts keeps the record invariant, where the bytes read fit IBUF. -/
theorem fieldsOk_of_decodeRecord {buf : List Byte} {r : Record} {cap : Nat} (h : (decodeRecord buf).result = .ok r)
    (hn : (decodeRecord buf).nread ≤ cap + 12) : r.fieldsOk cap := by
  obtain ⟨_, hlen, htype, hpayload, hcrc, hread⟩ := decodeRecord_ok h
  have hpayloadLen : r.payload.length = r.len.toNat := by
    rw [hpayload, slice, List.length_take, List.length_drop]
    omega
  exact ⟨hpayloadLen.symm, htype, hcrc, by omega⟩

/-! ### Commands, host actions, steps -/

theorem ExecEffect.keeps_inv (he : ExecEffect i s s') (h : s.Held) : s'.Inv := by
  cases he with
  | ended b e hb hs => subst hs; exact (h.booked hb).complete e
  | slotBuilt t b v _ hv hb hs => subst hs; exact ((h.booked hb).setSlot t hv).complete .ok
  | typeCopied t _ hp hs => subst hs; exact (h.setSlot t (h.record hp).type).complete .ok
  | scalar v _ hs => subst hs; exact (h.of_same rfl).complete .ok
  | computed b v c _ hb hs => subst hs; exact ((h.booked hb).of_same rfl).complete .ok
  | recordBuilt t b c _ hp hn hb hs =>
    obtain ⟨l, m, rfl⟩ := hb
    have hr := newRecord_fieldsOk (h.slot t hp) s.length_ibufBytes hn h.cfg.1
    subst hs; exact ((h.setRecord hr).of_same rfl).complete .ok
  | recordDecoded b r c _ hr hn hb hs =>
    obtain ⟨l, m, rfl⟩ := hb
    subst hs; exact ((h.setRecord (fieldsOk_of_decodeRecord hr hn)).of_same rfl).complete .ok
  | output n bs ho hn hs => subst hs; exact (h.storeObuf hn (ho.length_eq h)).complete .ok

theorem runCommand_keeps_inv (h : s.Held) (hr : runCommand s = .next s') : s'.Inv := by
  rcases runCommand_effect hr with rfl | ⟨i, he⟩
  · exact (h.of_same rfl).complete .illegalCommand
  · exact he.keeps_inv h

theorem resetWith_inv {p : Config.Params} (hp : p.wf) : (State.resetWith p).Inv where
  cfg := hp
  idle := rfl
  err := by simp [State.resetWith, listedErrs]
  ibufLen := Nat.zero_le _
  obufLen := Nat.zero_le _
  ibuf := ⟨List.Pairwise.nil, fun _ hc => absurd hc List.not_mem_nil⟩
  obuf := ⟨List.Pairwise.nil, fun _ hc => absurd hc List.not_mem_nil⟩
  obufHeld := fun _ ha => absurd ha (Nat.not_lt_zero _)
  tc0 := fun hp => absurd hp Bool.false_ne_true
  tc1 := fun hp => absurd hp Bool.false_ne_true
  record := fun hp => absurd hp Bool.false_ne_true

theorem HostEffect.keeps_inv {op : HostOp} (he : HostEffect op s s') (h : s.Inv) : s'.Inv := by
  cases he with
  | ran w hr => exact runCommand_keeps_inv (s := s.latch w) (h.held.of_same rfl) hr
  | ibufLenWritten v hv hs => subst hs; exact { h with ibufLen := hv }
  | ibufWritten a b ha hs => subst hs; exact (h.held.writeIbuf ha b).inv h.idle h.err
  | wasReset _ hs =>
    have hreset := resetWith_inv h.cfg
    subst hs; exact (hreset.held.of_same rfl).inv hreset.idle hreset.err
  | ignored hs | argWritten _ hs | replied _ hs | readBusy _ _ hs | readBeyond _ hs =>
    subst hs; exact (h.held.of_same rfl).inv h.idle h.err

/-- Settles O47: a running command keeps all of the invariant but STATUS, and its end gives STATUS back. -/
theorem everyStepKeepsTheInvariant : Obligations.EveryStepKeepsTheInvariant := by
  intro s s' h hstep
  cases step_effect hstep with
  | waited hs => subst hs; exact h
  | completed _ hr => exact runCommand_keeps_inv h.held hr
  | acted op rest _ he => exact he.keeps_inv ((h.held.of_same rfl).inv h.idle h.err)

/-- Settles O46: an empty block keeps the invariant, and the full-range parameters are lawful. -/
theorem resetMeetsTheInvariant : Obligations.ResetMeetsTheInvariant :=
  ⟨fun _ hp => resetWith_inv hp, resetWith_inv (by decide), rfl, rfl⟩

end Sys2Proof.Machine
end

section
/-! PROOFS. The hidden state of 10_state.md R39 is never observed: every operation answers alike on a state and on one that
differs from it in CRC_ACC and the step index only. -/

namespace Sys2Proof.Machine

/-- The state s with other hidden state (10_state.md R39). -/
def State.withHidden (s : State) (c : Word) (k : Nat) : State := { s with crcAcc := c, stepIndex := k }

theorem sameButHidden.eq_withHidden {s t : State} (h : sameButHidden s t) : t = s.withHidden t.crcAcc t.stepIndex := h

/-- Two answers that differ in hidden state only. -/
inductive Alike : Result → Result → Prop
  | next {s t : State} (h : sameButHidden s t) : Alike (.next s) (.next t)
  | fault (r : Fault) : Alike (.fault r) (.fault r)
  | refused {r r' : Refusal} (h : refusalsAlike r r') : Alike (.refused r) (.refused r')

theorem alike_ite {p : Prop} {_ : Decidable p} {r₁ r₂ r₁' r₂' : Result} (h₁ : Alike r₁ r₁') (h₂ : Alike r₂ r₂') :
    Alike (if p then r₁ else r₂) (if p then r₁' else r₂') := by
  split
  · exact h₁
  · exact h₂

/-! ### The bookkeeping of a read -/

theorem State.noteRead_withHidden (s : State) (c : Word) (k n : Nat) :
    (s.withHidden c k).noteRead n = (s.noteRead n).withHidden c k := by
  cases h : s.ibufWritten n
  · rw [s.noteRead_unwritten n h]
    exact (s.withHidden c k).noteRead_unwritten n h
  · rw [s.noteRead_written n h]
    exact (s.withHidden c k).noteRead_written n h

theorem State.noteRefused_withHidden (s : State) (c : Word) (k n : Nat) :
    (s.withHidden c k).noteRefused n = (s.noteRefused n).withHidden c k := by
  have hw : (s.withHidden c k).ibufWritten n = s.ibufWritten n := rfl
  unfold State.noteRefused
  rw [hw]
  split <;> rfl

/-! ### The ends of a command -/

variable {s t : State} {c : Word} {k : Nat}

theorem alike_finish (h : sameButHidden s t) : Alike (finish s) (finish t) := by
  rw [h.eq_withHidden]
  exact .next rfl

theorem alike_finishRes (v : Word) : Alike (finishRes v s) (finishRes v (s.withHidden c k)) := .next rfl

theorem alike_raise (e : ErrCode) : Alike (raise e s) (raise e (s.withHidden c k)) := .next rfl

theorem alike_raiseFault (f : UsageFault) (e : ErrCode) : Alike (raiseFault f e s) (raiseFault f e (s.withHidden c k)) :=
  .next rfl

theorem alike_finishObuf (n : Nat) (bs : List Byte) : Alike (finishObuf n bs s) (finishObuf n bs (s.withHidden c k)) :=
  alike_ite (alike_finish rfl) (.fault _)

/-! ### The operands of a command -/

theorem alike_withSlot {u : SlotIx} {f f' : Bytes4 → Result} (h : ∀ b, Alike (f b) (f' b)) :
    Alike (withSlot u s f) (withSlot u (s.withHidden c k) f') :=
  alike_ite (h (s.slot u).bytes) (alike_raiseFault _ _)

theorem alike_withRecord {f f' : Record → Result} (h : ∀ r, Alike (f r) (f' r)) :
    Alike (withRecord s f) (withRecord (s.withHidden c k) f') :=
  alike_ite (h s.record) (alike_raiseFault _ _)

theorem alike_readIbuf {n : Nat} {f f' : State → Result} (h : ∀ b : State, Alike (f b) (f' (b.withHidden c k))) :
    Alike (readIbuf n s f) (readIbuf n (s.withHidden c k) f') := by
  have hnote := h (s.noteRead n)
  rw [← State.noteRead_withHidden] at hnote
  exact alike_ite hnote (.fault _)

/-! ### Commands -/

theorem alike_execTcFromText (u : SlotIx) : Alike (execTcFromText u s) (execTcFromText u (s.withHidden c k)) := by
  refine alike_readIbuf fun b => alike_ite ?_ ?_
  · exact alike_ite (alike_raise _)
      (alike_ite (alike_raise _) (alike_ite (alike_finish (by cases u <;> rfl)) (alike_raise _)))
  · rw [State.noteRefused_withHidden]
    exact alike_raise _

theorem alike_execChunkDecode : Alike (execChunkDecode s) (execChunkDecode (s.withHidden c k)) := by
  have hbytes : (s.withHidden c k).ibufBytes = s.ibufBytes := rfl
  unfold execChunkDecode
  rw [hbytes]
  refine alike_readIbuf fun b => ?_
  cases (decodeRecord s.ibufBytes).result with
  | error e => exact alike_raise e
  | ok r => exact alike_finish rfl

theorem alike_execChunkNew (u : SlotIx) : Alike (execChunkNew u s) (execChunkNew u (s.withHidden c k)) := by
  refine alike_withSlot fun type => alike_ite (alike_raiseFault _ _) ?_
  exact alike_readIbuf fun b => alike_finish rfl

theorem alike_execCrcCompute : Alike (execCrcCompute s) (execCrcCompute (s.withHidden c k)) := by
  refine alike_readIbuf fun b => ?_
  exact alike_finishRes (s := b.setCrcAcc _) _

theorem alike_exec (i : Instr) : Alike (exec i s) (exec i (s.withHidden c k)) := by
  cases i with
  | tcFromBytes u => exact alike_ite (alike_finish (by cases u <;> rfl)) (alike_raise _)
  | tcFromText u => exact alike_execTcFromText u
  | tcBytes u | tcIsCritical u | tcIsPublic u | tcIsReservedBitValid u | tcIsSafeToCopy u | tcIsValid u =>
    exact alike_withSlot fun b => alike_finishRes _
  | tcRender u => exact alike_withSlot fun b => alike_finishObuf 4 (bytesOf b)
  | tcEqual => exact alike_withSlot fun b0 => alike_withSlot fun b1 => alike_finishRes _
  | chunkNew u => exact alike_execChunkNew u
  | chunkLength | chunkCrc => exact alike_withRecord fun r => alike_finishRes _
  | chunkType u => exact alike_withRecord fun r => alike_finish (by cases u <;> rfl)
  | chunkPayload | chunkEncode | chunkRender => exact alike_withRecord fun r => alike_finishObuf _ _
  | chunkPayloadText => exact alike_withRecord fun r => alike_ite (alike_finishObuf _ _) (alike_raise _)
  | chunkDecode => exact alike_execChunkDecode
  | crcCompute => exact alike_execCrcCompute

theorem alike_runCommand : Alike (runCommand s) (runCommand (s.withHidden c k)) := by
  have hcmd : (s.withHidden c k).cmd = s.cmd := rfl
  unfold runCommand
  rw [hcmd]
  cases decode s.cmd with
  | error e => exact alike_raiseFault _ _
  | ok i => exact alike_exec i

/-! ### Host actions -/

theorem alike_unlessBusy {r r' : Result} (h : Alike r r') : Alike (unlessBusy s r) (unlessBusy (s.withHidden c k) r') :=
  alike_ite (.refused ⟨s.markRefused, (s.withHidden c k).markRefused, rfl, .inl ⟨rfl, rfl⟩⟩) h

theorem alike_registerAccess :
    Alike (.refused (.registerAccess s.markRefused)) (.refused (.registerAccess (s.withHidden c k).markRefused)) :=
  .refused ⟨s.markRefused, (s.withHidden c k).markRefused, rfl, .inr (.inl ⟨rfl, rfl⟩)⟩

theorem alike_readResult (v busyValue : Reply) :
    Alike (readResult s v busyValue) (readResult (s.withHidden c k) v busyValue) :=
  alike_ite (.next rfl) (.next rfl)

theorem alike_writeIbufLen (v : Dword) : Alike (writeIbufLen v s) (writeIbufLen v (s.withHidden c k)) :=
  alike_ite (.refused ⟨s.markRefused, (s.withHidden c k).markRefused, rfl, .inr (.inr (.inl ⟨rfl, rfl⟩))⟩)
    (alike_unlessBusy (.next rfl))

theorem alike_hostWriteReg (off : Nat) (v : AccessData) :
    Alike (hostWriteReg off v s) (hostWriteReg off v (s.withHidden c k)) := by
  unfold hostWriteReg
  split
  · exact alike_unlessBusy (alike_runCommand (s := s.latch _))
  · exact .next rfl
  · exact alike_unlessBusy (.next rfl)
  · exact .next rfl
  · exact alike_writeIbufLen _
  · exact .next rfl
  · exact alike_registerAccess

theorem alike_hostReadReg (off : Nat) (width : AccessWidth) :
    Alike (hostReadReg off width s) (hostReadReg off width (s.withHidden c k)) := by
  unfold hostReadReg
  split
  · exact .next rfl
  · exact .next rfl
  · exact .next rfl
  · exact alike_readResult _ _
  · exact .next rfl
  · exact alike_readResult _ _
  · exact alike_registerAccess

theorem alike_hostWriteIbuf (a : Nat) (b : Byte) : Alike (hostWriteIbuf a b s) (hostWriteIbuf a b (s.withHidden c k)) :=
  alike_ite (.refused ⟨s.markRefused, (s.withHidden c k).markRefused, rfl, .inr (.inr (.inr (.inl ⟨rfl, rfl⟩)))⟩)
    (alike_unlessBusy (.next rfl))

theorem alike_hostReadObuf (a : Nat) : Alike (hostReadObuf a s) (hostReadObuf a (s.withHidden c k)) :=
  alike_ite (.refused ⟨s.markRefused, (s.withHidden c k).markRefused, rfl, .inr (.inr (.inr (.inr ⟨rfl, rfl⟩)))⟩)
    (alike_ite (.next rfl) (alike_ite (.next rfl) (.next rfl)))

theorem alike_hostAct (op : HostOp) : Alike (hostAct op s) (hostAct op (s.withHidden c k)) := by
  cases op with
  | writeReg off v => exact alike_hostWriteReg off v
  | readReg off width => exact alike_hostReadReg off width
  | writeIbuf a b => exact alike_hostWriteIbuf a b
  | readObuf a => exact alike_hostReadObuf a
  | reset => exact .next rfl

theorem alike_step : Alike (step s) (step (s.withHidden c k)) := by
  have hq : (s.withHidden c k).hostQ = s.hostQ := rfl
  unfold step stepState
  rw [hq]
  cases s.hostQ with
  | nil => exact alike_ite alike_runCommand (.next rfl)
  | cons op rest => exact alike_hostAct (s := { s with hostQ := rest }) op

theorem Alike.of_next {s' : State} {r : Result} (h : Alike (.next s') r) : ∃ t', r = .next t' ∧ sameButHidden s' t' := by
  cases h with
  | next h => exact ⟨_, rfl, h⟩

theorem Alike.of_fault {f : Fault} {r : Result} (h : Alike (.fault f) r) : r = .fault f := by
  cases h
  rfl

theorem Alike.of_refused {f : Refusal} {r : Result} (h : Alike (.refused f) r) :
    ∃ f', r = .refused f' ∧ refusalsAlike f f' := by
  cases h with
  | refused h => exact ⟨_, rfl, h⟩

/-- Settles O52: the two states step alike, and each kind of answer has an answer of its kind alone alike. -/
theorem hiddenStateIsNeverObserved : Obligations.HiddenStateIsNeverObserved := by
  intro s t h
  have halike : Alike (step s) (step t) := by
    rw [h.eq_withHidden]
    exact alike_step
  exact ⟨fun s' hs => (hs ▸ halike).of_next, fun f hs => (hs ▸ halike).of_fault, fun f hs => (hs ▸ halike).of_refused⟩

end Sys2Proof.Machine
end

section
/-! PROOFS. What no command writes: the registers ARG, IBUF_LEN and CMD, IBUF, and what is not the block's own state
(20_memory.md R69, 30_encoding.md R95). -/

namespace Sys2Proof.Machine

variable {i : Instr} {s s' : State}

/-- The fields that every command leaves as they are. -/
structure SameInputs (s s' : State) : Prop where
  arg : s'.arg = s.arg
  ibufLen : s'.ibufLen = s.ibufLen
  cmd : s'.cmd = s.cmd
  cfg : s'.cfg = s.cfg
  hostQ : s'.hostQ = s.hostQ
  replies : s'.replies = s.replies

theorem ExecEffect.sameInputs (h : ExecEffect i s s') : SameInputs s s' := by
  cases h with
  | output n bs _ _ h | scalar v _ h | typeCopied t _ _ h => subst h; constructor <;> simp
  | ended b _ hb h | slotBuilt t b _ _ _ hb h | computed b _ _ _ hb h | recordBuilt _ b _ _ _ _ hb h
  | recordDecoded b _ _ _ _ _ hb h =>
    obtain ⟨l, m, rfl⟩ := hb
    subst h; constructor <;> simp

/-- Every command ends by `complete`, which clears BUSY (30_encoding.md R95). -/
theorem ExecEffect.busy_eq_false (h : ExecEffect i s s') : s'.busy = false := by
  cases h <;> (subst_vars; rfl)

/-- Settles O36: an effect of a command writes results, slots, REC, STATUS and bookkeeping alone. -/
theorem commandsKeepTheirInputs : Obligations.CommandsKeepTheirInputs := by
  intro i s s' h
  have he := exec_effect i s s' h
  obtain ⟨harg, hlen, hcmd, hcfg, hq, hreplies⟩ := he.sameInputs
  exact ⟨harg, hlen, fun a => by rw [he.ibuf_eq], hcmd, hcfg, hq, hreplies, he.busy_eq_false⟩

end Sys2Proof.Machine
end

section
/-! PROOFS. The host's accesses, each on an idle block (20_memory.md R50 to R56). -/

namespace Sys2Proof.Machine

variable {s : State}

/-- The next host action leaves the queue and acts on the block (log 5). -/
theorem step_of_hostQ {op : HostOp} {rest : List HostOp} (hq : s.hostQ = op :: rest) :
    step s = hostAct op { s with hostQ := rest } := by
  unfold step stepState
  rw [hq]

theorem unlessBusy_of_idle (hb : s.busy = false) (r : Result) : unlessBusy s r = r := by
  simp [unlessBusy, hb]

theorem readResult_of_idle (hb : s.busy = false) (v busyValue : Reply) :
    readResult s v busyValue = .next (s.reply v) := by
  simp [readResult, hb]

/-! ### Commands -/

theorem runCommand_of_decode {i : Instr} (h : decode s.cmd = .ok i) : runCommand s = exec i s := by
  unfold runCommand
  rw [h]

theorem writeCmd_of_idle {w : Word} {i : Instr} (hb : s.busy = false) (h : decode w = .ok i) :
    writeCmd w s = exec i (s.latch w) := by
  rw [writeCmd, unlessBusy_of_idle hb, runCommand_of_decode (s := s.latch w) h]

theorem step_writeCmd {w : Word} {i : Instr} {rest : List HostOp} (hb : s.busy = false)
    (hq : s.hostQ = .writeReg 0x00 (.w32 w) :: rest) (h : decode w = .ok i) :
    step s = exec i { s with hostQ := rest, cmd := w, busy := true, draws := s.draws + 1 } :=
  (step_of_hostQ hq).trans (writeCmd_of_idle (s := { s with hostQ := rest }) hb h)

/-- Settles O5: `withFetchWord` places the write of the word itself, so its step is one of the first kind. -/
theorem stepRunsDecodedCommand : Obligations.StepRunsDecodedCommand := by
  refine ⟨fun s w i rest => step_writeCmd, fun s w i h => ?_⟩
  have hword : BitVec.ofNat 32 (w.toNat % 2 ^ 32) = w := by
    rw [Nat.mod_eq_of_lt w.isLt, BitVec.ofNat_toNat, BitVec.setWidth_eq]
  have hq : (s.withFetchWord 32 w.toNat).hostQ = .writeReg 0x00 (.w32 w) :: s.hostQ := by
    rw [State.withFetchWord, hword]
  exact step_writeCmd rfl hq h

/-! ### Register reads -/

/-- The value of the register that an access names, whole: none where it names no register (20_memory.md R51, R52). -/
def State.regValue (s : State) (off : Nat) (width : AccessWidth) : Option Reply :=
  match off, width with
  | 0x00, .w32 => some (.word s.cmd)
  | 0x04, .w32 => some (.word (statusWord s))
  | 0x08, .w32 => some (.word s.arg)
  | 0x0C, .w32 => some (.word s.res)
  | 0x10, .w64 => some (.dword s.ibufLen)
  | 0x18, .w64 => some (.dword s.obufLen)
  | _, _ => none

theorem exists_regValue {off : Nat} {width : AccessWidth} (h : (off, width) ∈ regAccesses) :
    ∃ v, s.regValue off width = some v := by
  simp only [regAccesses, List.mem_cons, Prod.mk.injEq, List.not_mem_nil, or_false] at h
  rcases h with ⟨rfl, rfl⟩ | ⟨rfl, rfl⟩ | ⟨rfl, rfl⟩ | ⟨rfl, rfl⟩ | ⟨rfl, rfl⟩ | ⟨rfl, rfl⟩ <;> exact ⟨_, rfl⟩

theorem hostReadReg_of_idle {off : Nat} {width : AccessWidth} {v : Reply} (hb : s.busy = false)
    (h : s.regValue off width = some v) : hostReadReg off width s = .next (s.reply v) := by
  unfold State.regValue at h
  split at h <;> cases h
  case h_4 | h_6 => exact readResult_of_idle hb _ _
  all_goals rfl

theorem step_readReg {off : Nat} {width : AccessWidth} {v : Reply} {rest : List HostOp} (hb : s.busy = false)
    (hv : s.regValue off width = some v) (hq : s.hostQ = .readReg off width :: rest) :
    step s = .next { s with hostQ := rest, replies := s.replies ++ [v] } :=
  (step_of_hostQ hq).trans (hostReadReg_of_idle (s := { s with hostQ := rest }) hb hv)

/-- ERR in bits 7 to 0, BUSY in bit 8, zeros above (10_state.md R23). -/
theorem statusWord_fields (s : State) :
    (statusWord s).extractLsb' 0 8 = s.err ∧ (statusWord s).extractLsb' 8 1 = BitVec.ofBool s.busy ∧
      (statusWord s).extractLsb' 9 23 = 0#23 := by
  unfold statusWord
  refine ⟨BitVec.extractLsb'_append_eq_right, (BitVec.extractLsb'_append_eq_of_le (by decide)).trans ?_,
    (BitVec.extractLsb'_append_eq_of_le (by decide)).trans ?_⟩
  · exact BitVec.extractLsb'_append_eq_right
  · exact BitVec.extractLsb'_append_eq_left

/-- Settles O54, from the value of each register. -/
theorem registerReadsReturnTheRegister : Obligations.RegisterReadsReturnTheRegister := by
  intro s rest hb
  obtain ⟨herr, hbusy, hzero⟩ := statusWord_fields s
  rw [hb] at hbusy
  exact ⟨step_readReg hb rfl, fun hq => ⟨statusWord s, step_readReg hb rfl hq, herr, hbusy, hzero⟩,
    step_readReg hb rfl, step_readReg hb rfl, step_readReg hb rfl, step_readReg hb rfl⟩

/-! ### Register writes -/

theorem writeIbufLen_of_idle {v : Dword} (hb : s.busy = false) (hv : v.toNat ≤ s.cfg.ibufCap) :
    writeIbufLen v s = .next { s with ibufLen := v } := by
  rw [writeIbufLen, if_neg (by omega), unlessBusy_of_idle hb]

/-- Settles O55: the three read-only registers ignore a write whatever BUSY is (log 20). -/
theorem registerWritesWriteOrAreIgnored : Obligations.RegisterWritesWriteOrAreIgnored := fun s rest =>
  ⟨fun _ hb hq => (step_of_hostQ hq).trans (unlessBusy_of_idle (s := { s with hostQ := rest }) hb _),
    fun _ hb hq hv => (step_of_hostQ hq).trans (writeIbufLen_of_idle (s := { s with hostQ := rest }) hb hv),
    fun _ hq => step_of_hostQ hq, fun _ hq => step_of_hostQ hq, fun _ hq => step_of_hostQ hq⟩

/-! ### The buffers -/

theorem hostWriteIbuf_of_idle {a : Nat} (b : Byte) (hb : s.busy = false) (ha : a < s.cfg.ibufCap) :
    hostWriteIbuf a b s = .next { s with ibuf := s.ibuf.write a b } := by
  rw [hostWriteIbuf, if_neg (by omega), unlessBusy_of_idle hb]

/-- Settles O56, from read after write. -/
theorem ibufWriteWritesOneByte : Obligations.IbufWriteWritesOneByte := fun s a b rest hb hq ha =>
  ⟨s.ibuf.write a b, (step_of_hostQ hq).trans (hostWriteIbuf_of_idle (s := { s with hostQ := rest }) b hb ha),
    Memory.read_write_same s.ibuf a b, fun x hx => Memory.read_write_other s.ibuf a x b hx⟩

theorem hostReadObuf_of_lt {a : Nat} (hb : s.busy = false) (ha : a < s.cfg.obufCap) (hlen : a < s.obufLen.toNat) :
    hostReadObuf a s = .next (s.reply (.byte ((s.obuf.read? a).getD (Config.staleByte s.draws a)))) := by
  rw [hostReadObuf, if_neg (by omega), if_neg (by simp [hb]), if_pos hlen]

theorem hostReadObuf_of_le {a : Nat} (hb : s.busy = false) (ha : a < s.cfg.obufCap) (hlen : s.obufLen.toNat ≤ a) :
    hostReadObuf a s = .next ((s.reply (.byte (Config.staleByte s.draws a))).logFault .obufBeyondLen) := by
  rw [hostReadObuf, if_neg (by omega), if_neg (by simp [hb]), if_neg (by omega)]

/-- Settles O57, from the two sides of OBUF_LEN. -/
theorem obufReadReturnsTheByte : Obligations.ObufReadReturnsTheByte := by
  intro s a rest hb hq ha
  rw [step_of_hostQ hq]
  refine ⟨fun b hlen hread => ?_, fun hlen => ⟨Config.staleByte s.draws a, ?_⟩⟩
  · have h := hostReadObuf_of_lt (s := { s with hostQ := rest }) hb ha hlen
    rwa [hread] at h
  · exact hostReadObuf_of_le (s := { s with hostQ := rest }) hb ha hlen

/-! ### Unlawful accesses -/

theorem hostReadReg_of_not_mem {off : Nat} {width : AccessWidth} (h : (off, width) ∉ regAccesses) :
    hostReadReg off width s = .refused (.registerAccess s.markRefused) := by
  unfold hostReadReg
  split
  case h_7 => rfl
  all_goals exact absurd (by decide) h

theorem hostWriteReg_of_not_mem {off : Nat} {v : AccessData} (h : (off, dataWidth v) ∉ regAccesses) :
    hostWriteReg off v s = .refused (.registerAccess s.markRefused) := by
  unfold hostWriteReg
  split
  case h_7 => rfl
  all_goals exact absurd (by simp [dataWidth, regAccesses]) h

theorem writeIbufLen_of_lt {v : Dword} (hv : s.cfg.ibufCap < v.toNat) :
    writeIbufLen v s = .refused (.ibufLenTooLarge s.markRefused) := if_pos hv

/-- An unlawful action breaks the offset and width of a register access, the bound of IBUF_LEN or the bound of a buffer,
which are all looked at before BUSY (log 21). -/
theorem hostAct_of_not_lawful {op : HostOp} (h : ¬ lawful s op) :
    ∃ r, hostAct op s = .refused r ∧ refusalCarries r s.markRefused := by
  cases op with
  | writeReg off v =>
    by_cases hacc : (off, dataWidth v) ∈ regAccesses
    · have hlong : ∃ d : Dword, off = 0x10 ∧ v = .w64 d ∧ s.cfg.ibufCap < d.toNat := by
        simpa [lawful, hacc] using h
      obtain ⟨d, rfl, rfl, hd⟩ := hlong
      exact ⟨_, writeIbufLen_of_lt hd, .inr (.inr (.inl rfl))⟩
    · exact ⟨_, hostWriteReg_of_not_mem hacc, .inr (.inl rfl)⟩
  | readReg off width => exact ⟨_, hostReadReg_of_not_mem h, .inr (.inl rfl)⟩
  | writeIbuf a b => exact ⟨_, if_pos (not_lt.mp h), .inr (.inr (.inr (.inl rfl)))⟩
  | readObuf a => exact ⟨_, if_pos (not_lt.mp h), .inr (.inr (.inr (.inr rfl)))⟩
  | reset => exact absurd trivial h

/-- Settles O50: whether an action is lawful does not depend on the queue. -/
theorem unlawfulActionsAreRefused : Obligations.UnlawfulActionsAreRefused := by
  intro s op rest _ hq h
  rw [step_of_hostQ hq]
  exact hostAct_of_not_lawful (s := { s with hostQ := rest }) h

end Sys2Proof.Machine
end

section
/-! PROOFS. Reads are idempotent (20_memory.md R63): an action that neither starts a command nor resets an idle block leaves
every value that the host can read, but that of the register it writes. -/

namespace Sys2Proof.Machine

variable {s s' : State} {op read : HostOp}

/-! ### What a read returns -/

/-- The byte that a read of OBUF[a] returns on an idle block: a free one where OBUF_LEN leaves it open (log 9). -/
def State.obufValue (s : State) (a : Nat) : Byte :=
  if a < s.obufLen.toNat then (s.obuf.read? a).getD (Config.staleByte s.draws a) else Config.staleByte s.draws a

/-- What a read of an idle block returns. -/
def State.readValue (s : State) : HostOp → Option Reply
  | .readReg off width => s.regValue off width
  | .readObuf a => some (.byte (s.obufValue a))
  | .writeReg _ _ => none
  | .writeIbuf _ _ => none
  | .reset => none

theorem hostReadObuf_of_idle {a : Nat} (hb : s.busy = false) (ha : a < s.cfg.obufCap) :
    ∃ l, hostReadObuf a s = .next { s with replies := s.replies ++ [.byte (s.obufValue a)], faultLog := l } := by
  by_cases hlen : a < s.obufLen.toNat
  · rw [hostReadObuf_of_lt hb ha hlen, State.obufValue, if_pos hlen]
    exact ⟨s.faultLog, rfl⟩
  · rw [hostReadObuf_of_le hb ha (by omega), State.obufValue, if_neg hlen]
    exact ⟨_, rfl⟩

/-- A lawful read of an idle block returns `readValue`, and changes nothing in the block but the fault log. -/
theorem hostAct_read (hb : s.busy = false) (hr : isRead op) (hl : lawful s op) :
    ∃ v l, s.readValue op = some v ∧ hostAct op s = .next { s with replies := s.replies ++ [v], faultLog := l } := by
  cases op with
  | readReg off width =>
    obtain ⟨v, hv⟩ := exists_regValue (s := s) hl
    exact ⟨v, s.faultLog, hv, hostReadReg_of_idle hb hv⟩
  | readObuf a =>
    obtain ⟨l, h⟩ := hostReadObuf_of_idle hb hl
    exact ⟨_, l, rfl, h⟩
  | writeReg _ _ | writeIbuf _ _ | reset => exact hr.elim

/-! ### What keeps a read -/

/-- BUSY and the parameters are as before, so the read is as lawful, and it returns the same. -/
structure ReadKept (read : HostOp) (s s' : State) : Prop where
  busy : s'.busy = s.busy
  cfg : s'.cfg = s.cfg
  value : s'.readValue read = s.readValue read

theorem ReadKept.trans {s'' : State} (h : ReadKept read s s') (h' : ReadKept read s' s'') : ReadKept read s s'' :=
  ⟨h'.busy.trans h.busy, h'.cfg.trans h.cfg, h'.value.trans h.value⟩

/-- The queue, the replies and the fault log are no register and no buffer. -/
theorem readKept_bookkeeping (s : State) (read : HostOp) (q : List HostOp) (r : List Reply) (l : List (Word × UsageFault)) :
    ReadKept read s { s with hostQ := q, replies := r, faultLog := l } :=
  ⟨rfl, rfl, by cases read <;> rfl⟩

/-- The bounds of the host's accesses are the parameters alone. -/
theorem lawful_congr (hcfg : s'.cfg = s.cfg) : lawful s' op ↔ lawful s op := by
  cases op <;> simp only [lawful, hcfg]

/-- A read returns `readValue`, and keeps it. -/
theorem step_read {rest : List HostOp} (hb : s.busy = false) (hr : isRead read) (hl : lawful s read)
    (hq : s.hostQ = read :: rest) :
    ∃ s' v, step s = .next s' ∧ s'.hostQ = rest ∧ ReadKept read s s' ∧ s.readValue read = some v ∧
      s'.replies = s.replies ++ [v] := by
  have hpop := readKept_bookkeeping s read rest s.replies s.faultLog
  obtain ⟨v, l, hv, hact⟩ := hostAct_read (s := { s with hostQ := rest }) hb hr hl
  exact ⟨_, v, (step_of_hostQ hq).trans hact, rfl, readKept_bookkeeping s read rest _ l, hpop.value.symm.trans hv, rfl⟩

/-! ### What the actions between leave -/

/-- All that a lawful action that neither starts a command nor resets can change of an idle block. -/
structure QuietEffect (op : HostOp) (s s' : State) : Prop where
  frame : s' = { s with
    arg := s'.arg, ibufLen := s'.ibufLen, ibuf := s'.ibuf, faultLog := s'.faultLog, replies := s'.replies }
  arg : s'.arg = s.arg ∨ ∃ v, op = .writeReg 0x08 v
  ibufLen : s'.ibufLen = s.ibufLen ∨ ∃ v, op = .writeReg 0x10 v

/-- A whole register write is one of 32 bits at the offset of CMD, STATUS, ARG or RES, or one of 64 bits at that of IBUF_LEN
or OBUF_LEN (20_memory.md R51). -/
theorem data_of_mem_regAccesses {off : Nat} {v : AccessData} (h : (off, dataWidth v) ∈ regAccesses) :
    (∃ w, v = .w32 w ∧ (off = 0x00 ∨ off = 0x04 ∨ off = 0x08 ∨ off = 0x0C)) ∨
      (∃ w, v = .w64 w ∧ (off = 0x10 ∨ off = 0x18)) := by
  cases v with
  | w32 w => exact .inl ⟨w, rfl, by simpa [regAccesses, dataWidth] using h⟩
  | w64 w => exact .inr ⟨w, rfl, by simpa [regAccesses, dataWidth] using h⟩
  | other n w => simp [regAccesses, dataWidth] at h

theorem hostWriteReg_quiet {off : Nat} {v : AccessData} (hb : s.busy = false) (hoff : off ≠ 0x00)
    (hl : lawful s (.writeReg off v)) :
    ∃ s', hostWriteReg off v s = .next s' ∧ QuietEffect (.writeReg off v) s s' := by
  obtain ⟨hacc, hlen⟩ := hl
  rcases data_of_mem_regAccesses hacc with ⟨w, rfl, rfl | rfl | rfl | rfl⟩ | ⟨w, rfl, rfl | rfl⟩
  · exact absurd rfl hoff
  · exact ⟨s, rfl, rfl, .inl rfl, .inl rfl⟩
  · exact ⟨_, unlessBusy_of_idle hb _, rfl, .inr ⟨_, rfl⟩, .inl rfl⟩
  · exact ⟨s, rfl, rfl, .inl rfl, .inl rfl⟩
  · exact ⟨_, writeIbufLen_of_idle hb (hlen w rfl rfl), rfl, .inl rfl, .inr ⟨_, rfl⟩⟩
  · exact ⟨s, rfl, rfl, .inl rfl, .inl rfl⟩

theorem hostAct_quiet (hb : s.busy = false) (hq : quiet op) (hl : lawful s op) :
    ∃ s', hostAct op s = .next s' ∧ QuietEffect op s s' := by
  cases op with
  | writeReg off v => exact hostWriteReg_quiet hb hq hl
  | writeIbuf a b => exact ⟨_, hostWriteIbuf_of_idle b hb hl, rfl, .inl rfl, .inl rfl⟩
  | readReg off width =>
    obtain ⟨v, l, _, h⟩ := hostAct_read (op := .readReg off width) hb trivial hl
    exact ⟨_, h, rfl, .inl rfl, .inl rfl⟩
  | readObuf a =>
    obtain ⟨v, l, _, h⟩ := hostAct_read (op := .readObuf a) hb trivial hl
    exact ⟨_, h, rfl, .inl rfl, .inl rfl⟩
  | reset => exact hq.elim

theorem QuietEffect.regValue_eq {off : Nat} {width : AccessWidth} (h : QuietEffect op s s')
    (hno : ¬ overwrites op (.readReg off width)) : s'.regValue off width = s.regValue off width := by
  rw [h.frame]
  unfold State.regValue
  split
  case h_3 =>
    have harg : s'.arg = s.arg := h.arg.resolve_right fun ⟨v, hv⟩ => hno ⟨_, v, _, hv, rfl, .inl rfl⟩
    rw [harg]
  case h_5 =>
    have hlen : s'.ibufLen = s.ibufLen := h.ibufLen.resolve_right fun ⟨v, hv⟩ => hno ⟨_, v, _, hv, rfl, .inr rfl⟩
    rw [hlen]
  all_goals rfl

theorem QuietEffect.readValue_eq (h : QuietEffect op s s') (hno : ¬ overwrites op read) :
    s'.readValue read = s.readValue read := by
  cases read with
  | readReg off width => exact h.regValue_eq hno
  | readObuf a => rw [h.frame]; rfl
  | writeReg _ _ | writeIbuf _ _ | reset => rfl

theorem QuietEffect.readKept (h : QuietEffect op s s') (hno : ¬ overwrites op read) : ReadKept read s s' :=
  ⟨by rw [h.frame], by rw [h.frame], h.readValue_eq hno⟩

theorem step_quiet {rest : List HostOp} (hb : s.busy = false) (hquiet : quiet op) (hl : lawful s op)
    (hno : ¬ overwrites op read) (hq : s.hostQ = op :: rest) :
    ∃ s', step s = .next s' ∧ s'.hostQ = rest ∧ ReadKept read s s' := by
  obtain ⟨s', hact, he⟩ := hostAct_quiet (s := { s with hostQ := rest }) hb hquiet hl
  have hpop := readKept_bookkeeping s read rest s.replies s.faultLog
  exact ⟨s', (step_of_hostQ hq).trans hact, by rw [he.frame], hpop.trans (he.readKept hno)⟩

/-- A run begins with its first step. -/
theorem run_succ_of_step {k : Nat} (h : step s = .next s') :
    Host.Core.run Sys2Proof.core (k + 1) s = Host.Core.run Sys2Proof.core k s' := by
  have hcore : Sys2Proof.core.step s = .next s' := h
  simp only [Host.Core.run, hcore]

/-- The actions of a quiet list all go on, and keep what the read returns. -/
theorem run_quiet {ops rest : List HostOp} (hb : s.busy = false)
    (hops : ∀ op ∈ ops, quiet op ∧ lawful s op ∧ ¬ overwrites op read) (hq : s.hostQ = ops ++ rest) :
    ∃ s' : State, Host.Core.run Sys2Proof.core ops.length s = .next s' ∧ s'.hostQ = rest ∧ ReadKept read s s' := by
  induction ops generalizing s with
  | nil => exact ⟨s, rfl, hq, rfl, rfl, rfl⟩
  | cons op ops ih =>
    obtain ⟨⟨hquiet, hl, hno⟩, hops⟩ := List.forall_mem_cons.mp hops
    obtain ⟨s1, hstep, hq1, hkept⟩ := step_quiet hb hquiet hl hno hq
    obtain ⟨s2, hrun, hq2, hkept2⟩ := ih (hkept.busy.trans hb)
      (fun op' h => (hops op' h).imp_right (.imp_left (lawful_congr hkept.cfg).mpr)) hq1
    exact ⟨s2, (run_succ_of_step hstep).trans hrun, hq2, hkept.trans hkept2⟩

/-- Settles O60: both reads return `readValue`, which the actions between them keep. -/
theorem readsAreIdempotent : Obligations.ReadsAreIdempotent := by
  intro s read ops rest hb hr hl hops hq
  obtain ⟨s1, v, hstep1, hq1, hkept1, hv, hreplies1⟩ := step_read hb hr hl hq
  obtain ⟨s2, hrun, hq2, hkept2⟩ := run_quiet (read := read) (hkept1.busy.trans hb)
    (fun op h => (hops op h).imp_right (.imp_left (lawful_congr hkept1.cfg).mpr)) hq1
  have hkept := hkept1.trans hkept2
  obtain ⟨s3, v', hstep3, _, _, hv', hreplies3⟩ :=
    step_read (hkept.busy.trans hb) hr ((lawful_congr hkept.cfg).mpr hl) hq2
  have hsame : v' = v := Option.some.inj (hv'.symm.trans (hkept.value.trans hv))
  exact ⟨s1, s2, s3, v, hstep1, hrun, hstep3, hreplies1, hsame ▸ hreplies3⟩

end Sys2Proof.Machine
end

section
/-! PROOFS. The encoding (30_encoding.md): the fields of a command word, the opcode map, the 31 legal words, and what an
illegal word does. -/

namespace Sys2Proof

/-! ### The fields of a command word (R80) -/

theorem word_fieldsOf (w : Word) : (fieldsOf w).word = w := by
  simp only [CmdFields.word, fieldsOf]
  rw [BitVec.extractLsb'_append_extractLsb'_eq_extractLsb' (by rfl),
    BitVec.extractLsb'_append_extractLsb'_eq_extractLsb' (by rfl)]
  exact BitVec.extractLsb'_eq_self

/-! ### The opcode map (R85) -/

theorem findOpcode_eq_some {opc : Byte} {r : OpcodeRow} {rows : List OpcodeRow} (h : findOpcode opc rows = some r) :
    r ∈ rows ∧ r.opc = opc := by
  induction rows with
  | nil => cases h
  | cons row rows ih =>
    unfold findOpcode at h
    split at h
    · cases h
      exact ⟨.head _, ‹_›⟩
    · exact ⟨.tail _ (ih h).1, (ih h).2⟩

theorem findOpcode_eq_none_iff {opc : Byte} {rows : List OpcodeRow} :
    findOpcode opc rows = none ↔ ∀ r ∈ rows, r.opc ≠ opc := by
  induction rows with
  | nil => simp [findOpcode]
  | cons row rows ih =>
    unfold findOpcode
    split <;> simp_all

/-- The opcodes without a row are those of the four ranges of R86. -/
theorem findOpcode_opcodeMap_eq_none_iff (opc : Byte) :
    findOpcode opc opcodeMap = none ↔
      opc.toNat = 0x00 ∨ (0x0B ≤ opc.toNat ∧ opc.toNat ≤ 0x0F) ∨ (0x19 ≤ opc.toNat ∧ opc.toNat ≤ 0x1F) ∨
        0x21 ≤ opc.toNat := by
  rw [findOpcode_eq_none_iff]
  simp only [opcodeMap, List.mem_cons, List.not_mem_nil, or_false, ne_eq, ← BitVec.toNat_inj, forall_eq_or_imp,
    BitVec.toNat_ofNat, Nat.reducePow, Nat.one_mod, Nat.reduceMod, forall_eq]
  omega

/-- A row whose slot use admits the T bit builds the command that has the row's opcode and that T bit (R82, R84). -/
theorem fields_build : ∀ r ∈ opcodeMap, ∀ t : BitVec 1, ¬(r.usesT = false ∧ t = 1#1) →
    (r.build (slotOfT t)).fields = ⟨r.opc, t, 0⟩ := by
  decide

/-- The opcodes that the opcode map does not mark "uses T" (R84, R85). -/
def slotlessOpcodes : List Byte :=
  [0x0A#8, 0x11#8, 0x13#8, 0x14#8, 0x15#8, 0x16#8, 0x17#8, 0x18#8, 0x20#8]

theorem opc_mem_slotlessOpcodes : ∀ r ∈ opcodeMap, r.usesT = false → r.opc ∈ slotlessOpcodes := by decide

theorem findOpcode_slotless : ∀ opc ∈ slotlessOpcodes, (findOpcode opc opcodeMap).any (fun r => !r.usesT) = true := by
  decide

/-- The rows that take no slot are those of the nine opcodes (R84). -/
theorem exists_findOpcode_slotless_iff (opc : Byte) :
    (∃ r, findOpcode opc opcodeMap = some r ∧ r.usesT = false) ↔ opc ∈ slotlessOpcodes := by
  constructor
  · rintro ⟨r, hfind, hslotless⟩
    obtain ⟨hmem, rfl⟩ := findOpcode_eq_some hfind
    exact opc_mem_slotlessOpcodes r hmem hslotless
  · intro h
    obtain ⟨r, hfind, hslotless⟩ := Option.any_eq_true _ _ |>.mp (findOpcode_slotless opc h)
    exact ⟨r, hfind, by simpa using hslotless⟩

/-! ### Decoding (60_exceptions.md R214) -/

/-- Everything that decoding can answer: the first check that fails, or the command of the opcode's row. -/
theorem decode_cases (w : Word) :
    ((fieldsOf w).rsv ≠ 0#23 ∧ decode w = .error .reservedBits) ∨
    ((fieldsOf w).rsv = 0#23 ∧ findOpcode (fieldsOf w).opc opcodeMap = none ∧ decode w = .error .unassignedOpcode) ∨
    (∃ r, (fieldsOf w).rsv = 0#23 ∧ findOpcode (fieldsOf w).opc opcodeMap = some r ∧
      (r.usesT = false ∧ (fieldsOf w).t = 1#1) ∧ decode w = .error .slotNotUsed) ∨
    (∃ r, (fieldsOf w).rsv = 0#23 ∧ findOpcode (fieldsOf w).opc opcodeMap = some r ∧
      ¬(r.usesT = false ∧ (fieldsOf w).t = 1#1) ∧ decode w = .ok (r.build (slotOfT (fieldsOf w).t))) := by
  simp only [decode]
  by_cases hrsv : (fieldsOf w).rsv = 0
  · rw [if_pos hrsv]
    cases hfind : findOpcode (fieldsOf w).opc opcodeMap with
    | none => exact .inr (.inl ⟨hrsv, rfl, rfl⟩)
    | some r =>
      by_cases hslot : r.usesT = false ∧ (fieldsOf w).t = 1#1
      · exact .inr (.inr (.inl ⟨r, hrsv, rfl, hslot, if_pos hslot⟩))
      · exact .inr (.inr (.inr ⟨r, hrsv, rfl, hslot, if_neg hslot⟩))
  · exact .inl ⟨hrsv, if_neg hrsv⟩

theorem decode_eq_reservedBits_iff (w : Word) : decode w = .error .reservedBits ↔ (fieldsOf w).rsv ≠ 0#23 := by
  rcases decode_cases w with ⟨hrsv, hd⟩ | ⟨hrsv, _, hd⟩ | ⟨_, hrsv, _, _, hd⟩ | ⟨_, hrsv, _, _, hd⟩ <;>
    rw [hd] <;> simp [hrsv]

theorem decode_eq_unassignedOpcode_iff (w : Word) :
    decode w = .error .unassignedOpcode ↔
      (fieldsOf w).rsv = 0#23 ∧ findOpcode (fieldsOf w).opc opcodeMap = none := by
  rcases decode_cases w with
    ⟨hrsv, hd⟩ | ⟨hrsv, hfind, hd⟩ | ⟨_, hrsv, hfind, _, hd⟩ | ⟨_, hrsv, hfind, _, hd⟩
  · rw [hd]; simp [hrsv]
  all_goals rw [hd, hfind]; simp [hrsv]

theorem decode_eq_slotNotUsed_iff (w : Word) :
    decode w = .error .slotNotUsed ↔ (fieldsOf w).rsv = 0#23 ∧ (fieldsOf w).t = 1#1 ∧
      ∃ r, findOpcode (fieldsOf w).opc opcodeMap = some r ∧ r.usesT = false := by
  rcases decode_cases w with
    ⟨hrsv, hd⟩ | ⟨hrsv, hfind, hd⟩ | ⟨r, hrsv, hfind, hslot, hd⟩ | ⟨r, hrsv, hfind, hslot, hd⟩
  · rw [hd]; simp [hrsv]
  all_goals rw [hd, hfind]
  · simp
  · simp [hrsv, hslot]
  · simp only [reduceCtorEq, false_iff]
    rintro ⟨_, ht, r', hr, hslotless⟩
    cases hr
    exact hslot ⟨hslotless, ht⟩

/-- The opcode, the T bit and the reserved bits of a command that decodes are those of its word. -/
theorem fields_of_decode {w : Word} {i : Instr} (h : decode w = .ok i) : i.fields = fieldsOf w := by
  rcases decode_cases w with ⟨_, hd⟩ | ⟨_, _, hd⟩ | ⟨_, _, _, _, hd⟩ | ⟨r, hrsv, hfind, hslot, hd⟩ <;>
    rw [hd] at h <;> cases h
  obtain ⟨hmem, hopc⟩ := findOpcode_eq_some hfind
  rw [fields_build r hmem _ hslot, hopc]
  exact congrArg (CmdFields.mk _ _) hrsv.symm

theorem decode_encode (i : Instr) : decode (encode i) = .ok i := by
  cases i with
  | tcFromBytes t | tcFromText t | tcBytes t | tcIsCritical t | tcIsPublic t | tcIsReservedBitValid t
  | tcIsSafeToCopy t | tcIsValid t | tcRender t | chunkNew t | chunkType t => cases t <;> rfl
  | tcEqual | chunkLength | chunkPayload | chunkCrc | chunkPayloadText | chunkEncode | chunkDecode | chunkRender
  | crcCompute => rfl

theorem encode_mem_legalWords (i : Instr) : encode i ∈ Machine.legalWords := by
  cases i with
  | tcFromBytes t | tcFromText t | tcBytes t | tcIsCritical t | tcIsPublic t | tcIsReservedBitValid t
  | tcIsSafeToCopy t | tcIsValid t | tcRender t | chunkNew t | chunkType t => cases t <;> decide
  | tcEqual | chunkLength | chunkPayload | chunkCrc | chunkPayloadText | chunkEncode | chunkDecode | chunkRender
  | crcCompute => decide

/-- Settles O1: a word is put together again from its fields, and every command's own word decodes to it. -/
theorem decodeYieldsCommandExactlyOnItsWord : Obligations.DecodeYieldsCommandExactlyOnItsWord := by
  refine fun w i => ⟨fun h => ?_, fun h => h ▸ decode_encode i⟩
  rw [encode, fields_of_decode h, word_fieldsOf]

/-- Settles O2, from the first check that fails and the opcodes without a row and without a slot. -/
theorem decodeReportsFirstFailingCheck : Obligations.DecodeReportsFirstFailingCheck := fun w =>
  ⟨decode_eq_reservedBits_iff w,
   (decode_eq_unassignedOpcode_iff w).trans (and_congr_right' (findOpcode_opcodeMap_eq_none_iff _)),
   (decode_eq_slotNotUsed_iff w).trans
    (and_congr_right' (and_congr_right' (exists_findOpcode_slotless_iff _)))⟩

end Sys2Proof

namespace Sys2Proof.Machine

/-! ### Illegal words (R83, R84, R86, R87) -/

theorem runCommand_of_not_mem_legalWords {s : State} (h : s.cmd ∉ legalWords) :
    runCommand s = .next ((s.logFault .illegalCommand).complete .illegalCommand) := by
  rcases runCommand_cases s with ⟨_, _, hr⟩ | ⟨i, hd, _⟩
  · exact hr
  · have hw : s.cmd = encode i := (decodeYieldsCommandExactlyOnItsWord _ i).mp hd
    exact absurd (hw ▸ encode_mem_legalWords i) h

theorem writeCmd_of_not_mem_legalWords {s : State} {w : Word} (hb : s.busy = false) (h : w ∉ legalWords) :
    writeCmd w s = .next (((s.latch w).logFault .illegalCommand).complete .illegalCommand) :=
  (unlessBusy_of_idle hb _).trans (runCommand_of_not_mem_legalWords (s := s.latch w) h)

/-- Settles O4: no command has the word, so the engine raises IllegalCommand on the latched state. -/
theorem illegalWordRaisesIllegalCommand : Obligations.IllegalWordRaisesIllegalCommand := fun s _ rest hb hq hw =>
  (step_of_hostQ hq).trans (writeCmd_of_not_mem_legalWords (s := { s with hostQ := rest }) hb hw)

end Sys2Proof.Machine
end

section
/-! PROOFS. The wire form of a record (43_chunk_record.md R167, R169): encoding and decoding are inverse to each other. -/

namespace Sys2Proof.Machine

/-! ### Parts of a byte string -/

@[simp] theorem length_bytesOf (b : Bytes4) : (bytesOf b).length = 4 := rfl

/-- Four bytes that stand in a string are the ones read at their place. -/
theorem bytes4At_append {pre post : List Byte} {b : Bytes4} {a : Nat} (ha : pre.length = a) :
    bytes4At (pre ++ bytesOf b ++ post) a = b := by
  subst ha
  simp [bytes4At, bytesOf]

theorem bytesOf_bytes4At {s : List Byte} {a : Nat} (h : a + 4 ≤ s.length) : bytesOf (bytes4At s a) = slice s a 4 := by
  rw [slice, List.drop_eq_getElem_cons (by omega), List.drop_eq_getElem_cons (by omega),
    List.drop_eq_getElem_cons (by omega), List.drop_eq_getElem_cons (by omega)]
  simp only [List.take_succ_cons, List.take_zero, bytesOf, bytes4At]
  rw [List.getD_eq_getElem _ _ (by omega), List.getD_eq_getElem _ _ (by omega), List.getD_eq_getElem _ _ (by omega),
    List.getD_eq_getElem _ _ (by omega)]

theorem slice_append {pre mid post : List Byte} {a n : Nat} (ha : pre.length = a) (hn : mid.length = n) :
    slice (pre ++ mid ++ post) a n = mid := by
  rw [slice, List.append_assoc, List.drop_left' ha, List.take_left' hn]

theorem slice_append_slice (s : List Byte) (a n m : Nat) : slice s a n ++ slice s (a + n) m = slice s a (n + m) := by
  rw [slice, slice, slice, List.take_add, List.drop_drop]

theorem slice_zero_of_length {s : List Byte} {n : Nat} (h : s.length = n) : slice s 0 n = s :=
  List.take_of_length_le h.le

/-! ### The wire form -/

/-- What the decode chain accepts is the wire form of the record that it gives back (R172). -/
theorem encodeRecord_of_decodeRecord {buf : List Byte} {r : Record} (h : (decodeRecord buf).result = .ok r) :
    encodeRecord r = buf := by
  rcases decodeRecord_cases buf with
    ⟨_, hd⟩ | ⟨_, _, hd⟩ | ⟨_, _, hd⟩ | ⟨_, _, _, hd⟩ | ⟨hlen, _, _, hd⟩ <;> rw [hd] at h <;> cases h
  set n := (be32 (bytes4At buf 0)).toNat
  simp only [encodeRecord, be32bytes_be32]
  rw [bytesOf_bytes4At (by omega), bytesOf_bytes4At (by omega), bytesOf_bytes4At (by omega)]
  calc slice buf 0 4 ++ slice buf 4 4 ++ slice buf 8 n ++ slice buf (8 + n) 4
      = slice buf 0 (4 + 4 + n + 4) := by simp only [← slice_append_slice, Nat.zero_add]
    _ = buf := slice_zero_of_length (by omega)

theorem length_encodeRecord (r : Record) : (encodeRecord r).length = 12 + r.payload.length := by
  simp only [encodeRecord, List.length_append, length_bytesOf]
  omega

theorem bytes4At_encodeRecord_len (r : Record) : bytes4At (encodeRecord r) 0 = be32bytes r.len := by
  simpa [encodeRecord] using bytes4At_append (pre := []) (b := be32bytes r.len) rfl

theorem bytes4At_encodeRecord_type (r : Record) : bytes4At (encodeRecord r) 4 = r.type := by
  simpa [encodeRecord] using bytes4At_append (pre := bytesOf (be32bytes r.len)) (b := r.type) rfl

theorem bytes4At_encodeRecord_crc (r : Record) :
    bytes4At (encodeRecord r) (8 + r.payload.length) = be32bytes r.crc := by
  simpa [encodeRecord] using bytes4At_append (pre := bytesOf (be32bytes r.len) ++ bytesOf r.type ++ r.payload)
    (b := be32bytes r.crc) (post := []) (by simp; omega)

theorem slice_encodeRecord_payload (r : Record) : slice (encodeRecord r) 8 r.payload.length = r.payload :=
  slice_append (pre := bytesOf (be32bytes r.len) ++ bytesOf r.type) rfl rfl

/-- The wire form of a record that meets the record invariant passes every check of the chain (R173). -/
theorem decodeRecord_encodeRecord {r : Record} (hpresent : r.present = true) (hlen : r.len.toNat = r.payload.length)
    (htype : allLetters r.type = true) (hcrc : r.crc = crc32 (crcMessage r.type r.payload)) :
    (decodeRecord (encodeRecord r)).result = .ok r := by
  simp [decodeRecord, length_encodeRecord, bytes4At_encodeRecord_len, bytes4At_encodeRecord_type, hlen,
    bytes4At_encodeRecord_crc, slice_encodeRecord_payload, htype, ← hcrc, ← hpresent]

/-- Settles O33, from the two round trips. -/
theorem decodeAcceptsExactlyWireForms : Obligations.DecodeAcceptsExactlyWireForms := by
  intro buf r
  constructor
  · intro h
    obtain ⟨hpresent, hbuf, htype, hpayload, hcrc, _⟩ := decodeRecord_ok h
    have hwire := encodeRecord_of_decodeRecord h
    have hlen : 12 + r.payload.length = 12 + r.len.toNat := by rw [← length_encodeRecord, hwire, hbuf]
    exact ⟨hpresent, by omega, htype, hcrc, hwire.symm⟩
  · rintro ⟨hpresent, hlen, htype, hcrc, rfl⟩
    exact decodeRecord_encodeRecord hpresent hlen htype hcrc

end Sys2Proof.Machine
end

section
/-! PROOFS. UTF-8 (41_typecode.md R102): the scan from the front finds every split into sequences of the table, because the
first byte of a sequence names its row. -/

namespace Sys2Proof.Machine

/-! ### One row -/

/-- A sequence of the table: one that matches a row. -/
def Utf8Sequence (q : List Byte) : Prop := ∃ row ∈ utf8Table, utf8RowMatches row q

theorem matchRow_append {row : List (Byte × Byte)} {q : List Byte} (h : utf8RowMatches row q) (rest : List Byte) :
    matchRow row (q ++ rest) = some rest := by
  induction h with
  | nil => rfl
  | cons hb _ ih => exact (if_pos hb).trans ih

theorem exists_of_matchRow {row : List (Byte × Byte)} {s rest : List Byte} (h : matchRow row s = some rest) :
    ∃ q, q ++ rest = s ∧ utf8RowMatches row q := by
  induction row generalizing s with
  | nil => exact ⟨[], (Option.some.inj h).symm, .nil⟩
  | cons r row ih =>
    cases s with
    | nil => cases h
    | cons b s =>
      rw [matchRow] at h
      split at h
      · obtain ⟨q, rfl, hq⟩ := ih h
        exact ⟨b :: q, rfl, .cons ‹_› hq⟩
      · cases h

/-! ### The row of a sequence -/

/-- No byte is in the first ranges of both rows. -/
def leadsApart : List (Byte × Byte) → List (Byte × Byte) → Bool
  | (lo, hi) :: _, (lo', hi') :: _ => hi < lo' || hi' < lo
  | _, _ => false

theorem utf8Table_leadsApart : ∀ row ∈ utf8Table, ∀ row' ∈ utf8Table, row' = row ∨ leadsApart row row' = true := by decide

theorem matchRow_of_leadsApart {row row' : List (Byte × Byte)} {q : List Byte} (h : leadsApart row row' = true)
    (hq : utf8RowMatches row q) (rest : List Byte) : matchRow row' (q ++ rest) = none := by
  cases hq with
  | nil => simp [leadsApart] at h
  | cons hb _ =>
    cases row' with
    | nil => simp [leadsApart] at h
    | cons r' row' =>
      simp only [leadsApart, Bool.or_eq_true, decide_eq_true_eq] at h
      exact if_neg (by bv_omega)

/-- The table takes a sequence off the front in one way alone. -/
theorem utf8Next_append {q : List Byte} (hq : Utf8Sequence q) (rest : List Byte) : utf8Next (q ++ rest) = some rest := by
  obtain ⟨row, hrow, hmatch⟩ := hq
  cases hnext : utf8Next (q ++ rest) with
  | none =>
    have hnone := List.findSome?_eq_none_iff.mp hnext row hrow
    rw [matchRow_append hmatch] at hnone
    cases hnone
  | some found =>
    obtain ⟨row', hrow', hfound⟩ := List.exists_of_findSome?_eq_some hnext
    rcases utf8Table_leadsApart row hrow row' hrow' with rfl | hapart
    · rw [← hfound, matchRow_append hmatch]
    · rw [matchRow_of_leadsApart hapart hmatch] at hfound
      cases hfound

theorem exists_of_utf8Next {s rest : List Byte} (h : utf8Next s = some rest) : ∃ q, q ++ rest = s ∧ Utf8Sequence q := by
  obtain ⟨row, hrow, hmatch⟩ := List.exists_of_findSome?_eq_some h
  obtain ⟨q, hs, hq⟩ := exists_of_matchRow hmatch
  exact ⟨q, hs, row, hrow, hq⟩

theorem Utf8Sequence.ne_nil {q : List Byte} (hq : Utf8Sequence q) : q ≠ [] := by
  rintro rfl
  obtain ⟨row, hrow, hmatch⟩ := hq
  cases hmatch
  exact absurd hrow (by decide)

/-! ### The split -/

/-- The scan counts a sequence at the front, and goes on behind it. -/
theorem utf8Scan_append {q : List Byte} (hq : Utf8Sequence q) (fuel : Nat) (rest : List Byte) :
    utf8Scan (fuel + 1) (q ++ rest) = (utf8Scan fuel rest).map (· + 1) := by
  have hnext := utf8Next_append hq rest
  obtain ⟨b, q, rfl⟩ := List.exists_cons_of_ne_nil hq.ne_nil
  rw [List.cons_append] at hnext ⊢
  simp [utf8Scan, hnext]

/-- The scan counts the sequences of any split, since each takes at least one byte. -/
theorem utf8Scan_flatten {qs : List (List Byte)} (hqs : ∀ q ∈ qs, Utf8Sequence q) {fuel : Nat}
    (hfuel : qs.flatten.length ≤ fuel) : utf8Scan fuel qs.flatten = some qs.length := by
  induction qs generalizing fuel with
  | nil => simp [utf8Scan]
  | cons q qs ih =>
    obtain ⟨hq, hrest⟩ := List.forall_mem_cons.mp hqs
    have hpos : 0 < q.length := List.length_pos_iff.mpr hq.ne_nil
    rw [List.flatten_cons, List.length_append] at hfuel
    cases fuel with
    | zero => omega
    | succ fuel => rw [List.flatten_cons, utf8Scan_append hq, ih hrest (by omega)]; rfl

/-- What the scan accepts is a split. -/
theorem exists_split_of_utf8Scan {fuel n : Nat} {s : List Byte} (h : utf8Scan fuel s = some n) :
    ∃ qs : List (List Byte), qs.flatten = s ∧ ∀ q ∈ qs, Utf8Sequence q := by
  induction fuel, s using utf8Scan.induct generalizing n with
  | case1 => exact ⟨[], rfl, by simp⟩
  | case2 => cases h
  | case3 fuel b s hnext => simp [utf8Scan, hnext] at h
  | case4 fuel b s rest hnext ih =>
    simp only [utf8Scan, hnext, Option.map_eq_some_iff] at h
    obtain ⟨k, hk, _⟩ := h
    obtain ⟨q, hs, hq⟩ := exists_of_utf8Next hnext
    obtain ⟨qs, rfl, hqs⟩ := ih hk
    exact ⟨q :: qs, hs, List.forall_mem_cons.mpr ⟨hq, hqs⟩⟩

theorem utf8Split_flatten {qs : List (List Byte)} (hqs : ∀ q ∈ qs, Utf8Sequence q) :
    utf8Split qs.flatten = some qs.length :=
  utf8Scan_flatten hqs le_rfl

/-- Settles O43: the scan accepts splits alone, and counts the sequences of every split. -/
theorem utf8SplitsByTheTable : Obligations.Utf8SplitsByTheTable := by
  refine fun s => ⟨⟨fun h => ?_, ?_⟩, ?_⟩
  · obtain ⟨n, hn⟩ := Option.isSome_iff_exists.mp h
    exact exists_split_of_utf8Scan hn
  · rintro ⟨qs, rfl, hqs⟩
    simp [utf8Valid, utf8Split_flatten hqs]
  · rintro qs rfl hqs
    simp [utf8Count, utf8Split_flatten hqs]

end Sys2Proof.Machine
end

section
/-! PROOFS. The TypeCode commands (41_typecode.md R103 to R112), each from what its operands and its end do. -/

namespace Sys2Proof.Machine

variable {s : State} {t : SlotIx} {text : List Byte} {b : Bytes4}

/-- Settles O3: each word is the encoding of its command. -/
theorem sampleWordsDecode : Obligations.SampleWordsDecode :=
  ⟨decode_encode (.tcFromBytes .t1), decode_encode (.tcIsSafeToCopy .t0), decode_encode .tcEqual,
    decode_encode (.chunkType .t1), decode_encode .chunkDecode, decode_encode .crcCompute⟩

/-! ### Letters -/

theorem upper_eq_false_of_lower {c : Byte} (h : lower c = true) : upper c = false := by
  rw [lower_iff] at h
  rw [Bool.eq_false_iff, ne_eq, upper_iff]
  omega

theorem allLetters_iff :
    allLetters b = true ↔ letter b.b0 = true ∧ letter b.b1 = true ∧ letter b.b2 = true ∧ letter b.b3 = true := by
  simp [allLetters, and_assoc]

/-- A letter is a sequence of the table's first row. -/
theorem utf8Sequence_of_letter {c : Byte} (h : letter c = true) : Utf8Sequence [c] := by
  rw [letter_iff, upper_iff, lower_iff] at h
  exact ⟨[(0x00#8, 0x7F#8)], by decide, .cons (by bv_omega) .nil⟩

/-- Four letters are a text of four sequences. -/
theorem utf8Split_bytesOf (h : allLetters b = true) : utf8Split (bytesOf b) = some 4 := by
  obtain ⟨h0, h1, h2, h3⟩ := allLetters_iff.mp h
  refine utf8Split_flatten (qs := [[b.b0], [b.b1], [b.b2], [b.b3]]) ?_
  simp [utf8Sequence_of_letter, h0, h1, h2, h3]

theorem utf8Valid_bytesOf (h : allLetters b = true) : utf8Valid (bytesOf b) = true := by
  simp [utf8Valid, utf8Split_bytesOf h]

theorem textLength_bytesOf (h : allLetters b = true) (u : TextUnit) : textLength u (bytesOf b) = 4 := by
  cases u with
  | chars => simp [textLength, utf8Count, utf8Split_bytesOf h]
  | bytes => rfl

/-! ### The constructors -/

/-- A constructor that succeeds writes its slot, and leaves the other. -/
theorem finish_setSlot (s : State) (t : SlotIx) (b : Bytes4) :
    finish (s.setSlot t b) = .next { s with
      tc0 := if t = .t0 then ⟨true, b⟩ else s.tc0
      tc1 := if t = .t1 then ⟨true, b⟩ else s.tc1
      err := 0x00#8, busy := false } := by
  cases t <;> rfl

/-- Settles O6: a lowercase byte is not uppercase, so the value it gives is not valid (R101). -/
theorem tcFromBytesBuildsTypeCode : Obligations.TcFromBytesBuildsTypeCode :=
  ⟨decode_encode (.tcFromBytes .t0), decode_encode (.tcFromBytes .t1), fun t s =>
    ⟨fun h => (if_pos h).trans (finish_setSlot s t s.arg4), fun h => if_neg (Bool.eq_false_iff.mp h),
      fun _ => upper_eq_false_of_lower⟩⟩

@[simp] theorem bytes4At_bytesOf (b : Bytes4) : bytes4At (bytesOf b) 0 = b := rfl

theorem bytesOf_of_length (h : text.length = 4) : bytesOf (bytes4At text 0) = text :=
  (bytesOf_bytes4At (by omega)).trans (slice_zero_of_length h)

/-- TC_FROM_TEXT on a text that the host has written: the read of it leaves no trace. -/
theorem exec_tcFromText_of_ibufIs (h : s.IbufIs text) (t : SlotIx) :
    exec (.tcFromText t) s =
      if utf8Valid text then
        if textLength s.cfg.textUnit text ≠ 4 then raise .invalidLength s
        else if text.length ≠ 4 then raise .invalidTypeCode s
        else if allLetters (bytes4At text 0) then finish (s.setSlot t (bytes4At text 0))
        else raise .invalidTypeCode s
      else raise (Config.unspecifiedErr s.draws) s.markRefused := by
  have hlen : s.ibufCount = text.length := h.len
  have hwritten : s.ibufWritten text.length = true := h.written _ le_rfl
  rw [exec, execTcFromText, hlen, readIbuf_written _ _ _ h.fits hwritten, h.ibufBytes_eq, State.noteRefused, if_pos hwritten]

/-- Four letters pass every check of TC_FROM_TEXT. -/
theorem exec_tcFromText_bytesOf (h : s.IbufIs (bytesOf b)) (hb : allLetters b = true) (t : SlotIx) :
    exec (.tcFromText t) s = finish (s.setSlot t b) := by
  rw [exec_tcFromText_of_ibufIs h, if_pos (utf8Valid_bytesOf hb), if_neg (not_not.mpr (textLength_bytesOf hb _)),
    if_neg (not_not.mpr (length_bytesOf b)), bytes4At_bytesOf, if_pos hb]

/-- Settles O7: the checks in their order, and four letters pass them in either unit. -/
theorem tcFromTextOnWellFormedText : Obligations.TcFromTextOnWellFormedText := by
  refine ⟨decode_encode (.tcFromText .t0), decode_encode (.tcFromText .t1), fun t s text h hvalid => ?_⟩
  have hexec := exec_tcFromText_of_ibufIs h t
  rw [if_pos hvalid] at hexec
  refine ⟨fun hunit => hexec.trans (if_pos hunit), fun hunit hlen => ?_, ?_, ?_⟩
  · rw [hexec, if_neg (not_not.mpr hunit), if_pos hlen]
    rfl
  · rintro hunit b rfl hb
    rw [hexec, if_neg (not_not.mpr hunit), if_neg (not_not.mpr (length_bytesOf b)), bytes4At_bytesOf,
      if_neg (Bool.eq_false_iff.mp hb)]
    rfl
  · rintro b rfl hb
    exact (exec_tcFromText_bytesOf h hb t).trans (finish_setSlot s t b)

/-- Settles O8: the code is the free one (log 10). -/
theorem tcFromTextOnIllFormedText : Obligations.TcFromTextOnIllFormedText := fun t _ _ h hvalid =>
  ⟨_, (exec_tcFromText_of_ibufIs h t).trans (if_neg (Bool.eq_false_iff.mp hvalid))⟩

/-- Where TC_FROM_TEXT ends with ERR = 0x00, its text is four letters. -/
theorem exists_of_exec_tcFromText_ok {s' : State} (h : s.IbufIs text) (hvalid : utf8Valid text = true)
    (hexec : exec (.tcFromText t) s = .next s') (herr : s'.err = 0x00#8) :
    ∃ b, text = bytesOf b ∧ allLetters b = true := by
  rw [exec_tcFromText_of_ibufIs h, if_pos hvalid] at hexec
  split_ifs at hexec with hunit hlen hletters
  · cases hexec; cases herr
  · cases hexec; cases herr
  · exact ⟨_, (bytesOf_of_length (not_not.mp hlen)).symm, hletters⟩
  · cases hexec; cases herr

/-- Settles O9: both constructors end by writing the slot with the four letters. -/
theorem textConstructorAgreesWithByteConstructor : Obligations.TextConstructorAgreesWithByteConstructor := by
  intro t s text h hvalid
  constructor
  · intro s' hexec herr
    obtain ⟨b, rfl, hb⟩ := exists_of_exec_tcFromText_ok h hvalid hexec herr
    refine ⟨b, rfl, hb, ?_⟩
    have hs' : finish (s.setSlot t b) = .next s' := (exec_tcFromText_bytesOf h hb t).symm.trans hexec
    rw [finish_setSlot] at hs'
    cases hs'
    simp [exec, execTcFromBytes, State.arg4, hb, finish_setSlot]
  · rintro b rfl hb
    exact ⟨_, exec_tcFromText_bytesOf h hb t, rfl⟩

/-! ### Boolean results (R100) -/

theorem boolWord_decide (p : Prop) [Decidable p] : boolWord (decide p) = if p then 1#32 else 0#32 := by
  simp [boolWord]

theorem upper_eq_decide (c : Byte) : upper c = decide (0x41#8 ≤ c ∧ c ≤ 0x5A#8) := by
  simp [upper]

theorem boolWord_upper (c : Byte) : boolWord (upper c) = if 0x41#8 ≤ c ∧ c ≤ 0x5A#8 then 1#32 else 0#32 := by
  rw [upper_eq_decide, boolWord_decide]

theorem boolWord_not_upper (c : Byte) : boolWord (!upper c) = if 0x41#8 ≤ c ∧ c ≤ 0x5A#8 then 0#32 else 1#32 := by
  rw [upper_eq_decide, ← decide_not, boolWord_decide, ite_not]

/-! ### The commands that need a slot -/

theorem exec_tcBytes : exec (.tcBytes t) s = withSlot t s fun b => finishRes (be32 b) s := rfl
theorem exec_tcIsCritical : exec (.tcIsCritical t) s = withSlot t s fun b => finishRes (boolWord (critical b)) s := rfl
theorem exec_tcIsPublic : exec (.tcIsPublic t) s = withSlot t s fun b => finishRes (boolWord (isPublic b)) s := rfl
theorem exec_tcIsReservedBitValid :
    exec (.tcIsReservedBitValid t) s = withSlot t s fun b => finishRes (boolWord (reservedBitValid b)) s := rfl
theorem exec_tcIsSafeToCopy : exec (.tcIsSafeToCopy t) s = withSlot t s fun b => finishRes (boolWord (safeToCopy b)) s := rfl
theorem exec_tcIsValid : exec (.tcIsValid t) s = withSlot t s fun b => finishRes (boolWord (isValid b)) s := rfl
theorem exec_tcRender : exec (.tcRender t) s = withSlot t s fun b => finishObuf 4 (bytesOf b) s := rfl
theorem exec_tcEqual :
    exec .tcEqual s = withSlot .t0 s fun b0 => withSlot .t1 s fun b1 => finishRes (boolWord (b0 = b1)) s := rfl

/-- A command that needs a slot that is not present ends with EmptyOperand and one entry in the fault log. -/
theorem exec_of_slot_absent {i : Instr} {k : Bytes4 → Result} (hi : exec i s = withSlot t s k)
    (h : (s.slot t).present = false) :
    exec i s = .next { s with err := 0x81#8, busy := false, faultLog := s.faultLog ++ [(s.cmd, .emptyOperand)] } :=
  hi.trans (withSlot_absent t s k h)

/-- A command that needs a slot that is present, and ends with a word in RES. -/
theorem exec_of_slot_present {i : Instr} {f : Bytes4 → Word} {v : Word}
    (hi : exec i s = withSlot t s fun b => finishRes (f b) s) (hv : f (s.slot t).bytes = v)
    (h : (s.slot t).present = true) : exec i s = .next { s with res := v, err := 0x00#8, busy := false } := by
  rw [hi, withSlot_present _ _ _ h, hv]
  rfl

/-! ### The accessors -/

/-- Settles O10: the bytes of the packed word are those of the slot. -/
theorem tcBytesReturnsPackedBytes : Obligations.TcBytesReturnsPackedBytes :=
  ⟨decode_encode (.tcBytes .t0), decode_encode (.tcBytes .t1), fun _ _ =>
    ⟨exec_of_slot_present exec_tcBytes rfl, fun hok h => (congrArg allLetters (be32bytes_be32 _)).trans (hok h),
      exec_of_slot_absent exec_tcBytes⟩⟩

/-- Settles O11: the property is upper of byte 0 (R100). -/
theorem tcIsCriticalReadsByte0 : Obligations.TcIsCriticalReadsByte0 :=
  ⟨decode_encode (.tcIsCritical .t0), decode_encode (.tcIsCritical .t1), fun _ _ =>
    ⟨exec_of_slot_present exec_tcIsCritical (boolWord_upper _), exec_of_slot_absent exec_tcIsCritical⟩⟩

/-- Settles O12: the property is upper of byte 1 (R100). -/
theorem tcIsPublicReadsByte1 : Obligations.TcIsPublicReadsByte1 :=
  ⟨decode_encode (.tcIsPublic .t0), decode_encode (.tcIsPublic .t1), fun _ _ =>
    ⟨exec_of_slot_present exec_tcIsPublic (boolWord_upper _), exec_of_slot_absent exec_tcIsPublic⟩⟩

/-- Settles O13: the property is upper of byte 2 (R100). -/
theorem tcIsReservedBitValidReadsByte2 : Obligations.TcIsReservedBitValidReadsByte2 :=
  ⟨decode_encode (.tcIsReservedBitValid .t0), decode_encode (.tcIsReservedBitValid .t1), fun _ _ =>
    ⟨exec_of_slot_present exec_tcIsReservedBitValid (boolWord_upper _), exec_of_slot_absent exec_tcIsReservedBitValid⟩⟩

/-- Settles O14: a lowercase byte is not uppercase. -/
theorem tcIsSafeToCopyReadsByte3 : Obligations.TcIsSafeToCopyReadsByte3 := by
  refine ⟨decode_encode (.tcIsSafeToCopy .t0), decode_encode (.tcIsSafeToCopy .t1), fun t s =>
    ⟨exec_of_slot_present exec_tcIsSafeToCopy (boolWord_not_upper _), fun h hlow =>
      exec_of_slot_present exec_tcIsSafeToCopy ?_ h, exec_of_slot_absent exec_tcIsSafeToCopy⟩⟩
  have hlower : lower (s.slot t).bytes.b3 = true := by simpa [lower] using hlow
  rw [safeToCopy, upper_eq_false_of_lower hlower]
  rfl

/-- Settles O15: is_valid is the reserved-bit-valid property itself (R101). -/
theorem tcIsValidReadsByte2 : Obligations.TcIsValidReadsByte2 :=
  ⟨decode_encode (.tcIsValid .t0), decode_encode (.tcIsValid .t1), fun _ _ =>
    ⟨exec_of_slot_present exec_tcIsValid (boolWord_upper _), rfl, exec_of_slot_absent exec_tcIsValid⟩⟩

/-! ### The rendering and the comparison -/

/-- Lawful parameters leave room in OBUF for the four bytes (00_scope.md R7). -/
theorem exec_tcRender_of_present (hcfg : s.cfg.wf) (h : (s.slot t).present = true) :
    exec (.tcRender t) s = finish (s.storeObuf 4 (bytesOf (s.slot t).bytes)) := by
  obtain ⟨_, hcap, _⟩ := hcfg
  rw [exec_tcRender, withSlot_present _ _ _ h, finishObuf, if_pos (by omega)]

/-- Settles O16, from read after write. -/
theorem tcRenderWritesFourBytes : Obligations.TcRenderWritesFourBytes := by
  refine ⟨decode_encode (.tcRender .t0), decode_encode (.tcRender .t1), fun t s =>
    ⟨fun hcfg h => ⟨_, exec_tcRender_of_present hcfg h, ?_⟩, fun hok h => utf8Valid_bytesOf (hok h),
      exec_of_slot_absent exec_tcRender⟩⟩
  have hread := Memory.read_writeBytes (bytesOf (s.slot t).bytes) s.obuf 0
  refine ⟨hread 0, hread 1, hread 2, hread 3, fun a ha => ?_⟩
  exact (hread a).trans (if_neg (by simp only [length_bytesOf]; omega))

theorem exec_tcEqual_of_tc0_present (h : s.tc0.present = true) :
    exec .tcEqual s = withSlot .t1 s fun b => finishRes (boolWord (s.tc0.bytes = b)) s :=
  exec_tcEqual.trans (withSlot_present .t0 s _ h)

/-- Settles O17: TC[0] is checked before TC[1], and whichever is absent ends the command. -/
theorem tcEqualComparesBothSlots : Obligations.TcEqualComparesBothSlots := by
  refine ⟨decode_encode .tcEqual, rfl, fun s => ⟨fun h0 h1 => ?_, fun habsent => ?_⟩⟩
  · exact exec_of_slot_present (exec_tcEqual_of_tc0_present h0) (boolWord_decide _) h1
  · cases h0 : s.tc0.present with
    | false => exact exec_of_slot_absent exec_tcEqual h0
    | true =>
      have h1 : s.tc1.present = false := habsent.resolve_left (by simp [h0])
      exact exec_of_slot_absent (exec_tcEqual_of_tc0_present h0) h1

end Sys2Proof.Machine
end

section
/-! PROOFS. The generator (42_crc_generator.md R141 to R147): the loop is linear in the register, so a word may be fed to it at
once or byte by byte. The table form and the residue rest on that; the normal form is the same loop, read backwards. -/

namespace Sys2Proof.Machine

/-! ### The inner loop is linear (R141) -/

theorem crcBit_of_even {w : Word} (h : w[0] = false) : crcBit w = w >>> 1 := by
  simp [crcBit, h]

theorem crcBit_of_odd {w : Word} (h : w[0] = true) : crcBit w = w >>> 1 ^^^ polyReflected := by
  simp [crcBit, h]

theorem crcBit_xor (v w : Word) : crcBit (v ^^^ w) = crcBit v ^^^ crcBit w := by
  have hshift : (v ^^^ w) >>> 1 = v >>> 1 ^^^ w >>> 1 := BitVec.ushiftRight_xor_distrib v w 1
  cases hv : v[0] <;> cases hw : w[0]
  · rw [crcBit_of_even (by simp [hv, hw]), crcBit_of_even hv, crcBit_of_even hw, hshift]
  · rw [crcBit_of_odd (by simp [hv, hw]), crcBit_of_even hv, crcBit_of_odd hw, hshift]
    ac_rfl
  · rw [crcBit_of_odd (by simp [hv, hw]), crcBit_of_odd hv, crcBit_of_even hw, hshift]
    ac_rfl
  · rw [crcBit_of_even (by simp [hv, hw]), crcBit_of_odd hv, crcBit_of_odd hw, hshift]
    calc v >>> 1 ^^^ w >>> 1 = v >>> 1 ^^^ w >>> 1 ^^^ (polyReflected ^^^ polyReflected) := by simp
      _ = v >>> 1 ^^^ polyReflected ^^^ (w >>> 1 ^^^ polyReflected) := by ac_rfl

theorem crcBits8_xor (v w : Word) : crcBits8 (v ^^^ w) = crcBits8 v ^^^ crcBits8 w := by
  simp only [crcBits8, crcBit_xor]

/-- Where the low byte is 0, the polynomial is not applied in eight steps. -/
theorem crcBits8_of_low_byte_zero {w : Word} (h : ∀ i < 8, w.getLsbD i = false) : crcBits8 w = w >>> 8 := by
  have hstep : ∀ i < 8, crcBit (w >>> i) = w >>> (i + 1) := fun i hi => by
    rw [crcBit_of_even (by simp [h i hi]), BitVec.shiftRight_add]
  have hfirst : crcBit w = w >>> 1 := by simpa using hstep 0
  simp [crcBits8, hfirst, hstep]

/-- The low byte of a word, as a word. -/
def lowByte (w : Word) : Word := (w.extractLsb' 0 8).setWidth 32

/-- Eight steps consume the low byte and shift the bytes above it down. -/
theorem crcBits8_split (w : Word) : crcBits8 w = crcBits8 (lowByte w) ^^^ w >>> 8 := by
  have hlow : ∀ i < 8, (lowByte w ^^^ w).getLsbD i = false := by
    intro i hi
    simp [lowByte, hi, show i < 32 by omega]
  have hhigh : (lowByte w ^^^ w) >>> 8 = w >>> 8 := by
    ext i hi
    simp [lowByte]
  calc crcBits8 w = crcBits8 (lowByte w ^^^ (lowByte w ^^^ w)) := by rw [← BitVec.xor_assoc, BitVec.xor_self, BitVec.zero_xor]
    _ = crcBits8 (lowByte w) ^^^ w >>> 8 := by rw [crcBits8_xor, crcBits8_of_low_byte_zero hlow, hhigh]

/-! ### The table form (R143, R144) -/

theorem crcTable_eq_map : crcTable = (List.range 256).map fun i => crcBits8 (BitVec.ofNat 32 i) := by
  decide +kernel

theorem crcTable_getElem? {i : Nat} (h : i < 256) : crcTable[i]? = some (crcBits8 (BitVec.ofNat 32 i)) := by
  rw [crcTable_eq_map, List.getElem?_map, List.getElem?_range h, Option.map_some]

/-- Settles O19: the table is the list of these values. -/
theorem crcTableHoldsEightStepValues : Obligations.CrcTableHoldsEightStepValues :=
  ⟨by rw [crcTable_eq_map, List.length_map, List.length_range], fun _ => crcTable_getElem?⟩

theorem crcTable_getD_byte (b : Byte) : crcTable.getD b.toNat 0#32 = crcBits8 (b.setWidth 32) := by
  rw [List.getD_eq_getElem?_getD, crcTable_getElem? b.isLt, Option.getD_some, BitVec.ofNat_toNat]

theorem ushiftRight_xor_byte (c : Word) (b : Byte) : (c ^^^ b.setWidth 32) >>> 8 = c >>> 8 := by
  ext i hi
  simp

theorem crcTableUpdate_eq (c : Word) (b : Byte) : crcTableUpdate c b = crcUpdate c b := by
  rw [crcTableUpdate, crcTable_getD_byte, crcUpdate, crcBits8_split (_ ^^^ _), ushiftRight_xor_byte, lowByte]

/-- Settles O20: the two forms do the same with each byte. -/
theorem crcTableFormEqualsBitSerial : Obligations.CrcTableFormEqualsBitSerial := by
  intro m
  have hupdate : crcTableUpdate = crcUpdate := funext₂ crcTableUpdate_eq
  rw [crc32Table, hupdate]
  rfl

/-! ### The normal form (R145) -/

theorem reverse_xor {n : Nat} (v w : BitVec n) : (v ^^^ w).reverse = v.reverse ^^^ w.reverse := by
  ext i hi
  simp [BitVec.getElem_reverse]

theorem reverse_ushiftRight_one (w : Word) : (w >>> 1).reverse = w.reverse <<< 1 := by
  ext i hi
  simp [BitVec.getElem_reverse, hi]

theorem reverse_byte (b : Byte) : (b.setWidth 32).reverse = b.reverse.setWidth 32 <<< 24 := by
  ext i hi
  simp [BitVec.getElem_reverse, BitVec.getLsbD_reverse, ← decide_not]

theorem reverse_polyReflected : polyReflected.reverse = polyNormal := by decide +kernel

/-- A step from bit 31 down is a step from bit 0 up on the reversed word. -/
theorem crcNormalBit_reverse (w : Word) : crcNormalBit w.reverse = (crcBit w).reverse := by
  have htop : w.reverse[31] = w[0] := BitVec.getElem_reverse w (by decide)
  cases h : w[0] with
  | false => simp [crcNormalBit, htop, h, crcBit_of_even h, reverse_ushiftRight_one]
  | true =>
    simp [crcNormalBit, htop, h, crcBit_of_odd h, reverse_xor, reverse_ushiftRight_one, reverse_polyReflected]

theorem crcNormalUpdate_reverse (c : Word) (b : Byte) : crcNormalUpdate c.reverse b = (crcUpdate c b).reverse := by
  simp only [crcNormalUpdate, crcNormalBits8, ← reverse_byte, ← reverse_xor, crcNormalBit_reverse, crcUpdate, crcBits8]

theorem foldl_crcNormalUpdate_reverse (c : Word) (m : List Byte) :
    m.foldl crcNormalUpdate c.reverse = (crcRun c m).reverse :=
  List.foldl_hom BitVec.reverse fun c b => crcNormalUpdate_reverse c b

/-- Settles O21: the normal form runs the loop on reversed registers, and its initial value is its own reverse. -/
theorem crcNormalFormEqualsBitSerial : Obligations.CrcNormalFormEqualsBitSerial := by
  intro m
  have hinit : crcInit = crcInit.reverse := by decide +kernel
  rw [crc32Normal, hinit, foldl_crcNormalUpdate_reverse, BitVec.reverse_reverse_eq, crc32]

/-! ### The residue (R146) -/

/-- The word w in the register is its first byte in little-endian order fed to the loop, and its other bytes kept for later. -/
theorem crcBits8_xor_word (c w : Word) : crcBits8 (c ^^^ w) = crcUpdate c (w.extractLsb' 0 8) ^^^ w >>> 8 := by
  rw [crcUpdate, crcBits8_xor, crcBits8_split w, ← BitVec.xor_assoc, ← crcBits8_xor, lowByte]

theorem extractLsb'_byte_ushiftRight (w : Word) (n : Nat) : (w >>> n).extractLsb' 0 8 = w.extractLsb' n 8 := by
  ext i hi
  simp

/-- The four bytes of a word, fed to the loop in little-endian order, act as the word itself. -/
theorem crcRun_le32bytes (c w : Word) :
    crcRun c (le32bytes w) = crcBits8 (crcBits8 (crcBits8 (crcBits8 (c ^^^ w)))) := by
  have hend : w >>> 32 = 0#32 := BitVec.ushiftRight_eq_zero le_rfl
  simp only [crcBits8_xor_word, ← BitVec.shiftRight_add, extractLsb'_byte_ushiftRight, Nat.reduceAdd, hend, BitVec.xor_zero]
  rfl

theorem crcRun_append (c : Word) (m n : List Byte) : crcRun c (m ++ n) = crcRun (crcRun c m) n :=
  List.foldl_append

theorem xor_crcFinal (c : Word) : c ^^^ crcFinal c = 0xFFFFFFFF#32 := by
  rw [crcFinal, ← BitVec.xor_assoc, BitVec.xor_self, BitVec.zero_xor]

/-- Settles O22: after m and its checksum the register holds what the loop makes of 0xFFFFFFFF, whatever m is. -/
theorem crcCheckValuesAndResidue : Obligations.CrcCheckValuesAndResidue := by
  refine ⟨by decide, by decide +kernel, fun m => ?_⟩
  rw [crcRun_append, crcRun_le32bytes, crc32, xor_crcFinal]
  decide +kernel

/-! ### CRC_COMPUTE (R147) -/

/-- The message of a record's checksum stands in its wire form between the length and the checksum. -/
theorem slice_encodeRecord_message (r : Record) :
    slice (encodeRecord r) 4 (4 + r.payload.length) = crcMessage r.type r.payload := by
  rw [encodeRecord, List.append_assoc (bytesOf _)]
  exact slice_append rfl (by simp)

theorem exec_crcCompute_of_ibufIs {s : State} {m : List Byte} (h : s.IbufIs m) :
    exec .crcCompute s = finishRes (crc32 m) (s.setCrcAcc (crcRun crcInit m)) := by
  have hlen : s.ibufCount = m.length := h.len
  rw [exec, execCrcCompute, hlen, readIbuf_written _ _ _ h.fits (h.written _ le_rfl), h.ibufBytes_eq]

/-- Settles O18: the read of the input leaves no trace, and a record that decodes is one whose wire form is the buffer. -/
theorem crcComputeReturnsCrcOfInput : Obligations.CrcComputeReturnsCrcOfInput := by
  refine ⟨decode_encode .crcCompute, rfl, fun s m h => ⟨_, exec_crcCompute_of_ibufIs h⟩, fun buf r h => ?_⟩
  obtain ⟨_, hlen, _, hcrc, rfl⟩ := (decodeAcceptsExactlyWireForms buf r).mp h
  rw [hlen, hcrc]
  exact congrArg crc32 (slice_encodeRecord_message r)

end Sys2Proof.Machine
end

section
/-! PROOFS. The ChunkRecord commands that read REC (43_chunk_record.md R161 to R168, R171), each from what its operand and its
end do. -/

namespace Sys2Proof.Machine

variable {s : State} {i : Instr}

theorem exec_chunkLength : exec .chunkLength s = withRecord s fun r => finishRes r.len s := rfl
theorem exec_chunkType (t : SlotIx) : exec (.chunkType t) s = withRecord s fun r => finish (s.setSlot t r.type) := rfl
theorem exec_chunkPayload : exec .chunkPayload s = withRecord s fun r => finishObuf r.len.toNat r.payload s := rfl
theorem exec_chunkCrc : exec .chunkCrc s = withRecord s fun r => finishRes r.crc s := rfl
theorem exec_chunkPayloadText : exec .chunkPayloadText s = withRecord s fun r =>
    if utf8Valid r.payload then finishObuf r.len.toNat r.payload s else raise .utf8DecodeError s := rfl
theorem exec_chunkEncode :
    exec .chunkEncode s = withRecord s fun r => finishObuf (12 + r.len.toNat) (encodeRecord r) s := rfl
theorem exec_chunkRender : exec .chunkRender s = withRecord s fun r =>
    finishObuf (renderBytes s.cfg.obufCap r).length (renderBytes s.cfg.obufCap r) s := rfl

/-- A command that needs REC while it is not present ends with EmptyOperand and one entry in the fault log (30_encoding.md
R94). -/
theorem exec_of_record_absent {k : Record → Result} (hi : exec i s = withRecord s k) (h : s.record.present = false) :
    exec i s = .next { s with err := 0x81#8, busy := false, faultLog := s.faultLog ++ [(s.cmd, .emptyOperand)] } :=
  hi.trans (withRecord_absent s k h)

/-- A command that needs REC while it is present, and ends with a word in RES. -/
theorem exec_of_record_present {f : Record → Word} (hi : exec i s = withRecord s fun r => finishRes (f r) s)
    (h : s.record.present = true) : exec i s = .next { s with res := f s.record, err := 0x00#8, busy := false } :=
  hi.trans (withRecord_present s _ h)

/-! ### Length, type and checksum -/

/-- Settles O24: the length of a record that keeps its invariant is that of its payload. -/
theorem chunkLengthReturnsLen : Obligations.ChunkLengthReturnsLen :=
  ⟨decode_encode .chunkLength, rfl, fun _ =>
    ⟨exec_of_record_present exec_chunkLength, fun hok h => (hok h).len, exec_of_record_absent exec_chunkLength⟩⟩

/-- Settles O25: the slot is written as a constructor writes it. -/
theorem chunkTypeCopiesTypeToSlot : Obligations.ChunkTypeCopiesTypeToSlot :=
  ⟨decode_encode (.chunkType .t0), decode_encode (.chunkType .t1), fun t s =>
    ⟨fun h => ((exec_chunkType t).trans (withRecord_present s _ h)).trans (finish_setSlot s t s.record.type),
      fun hok h => (hok h).type, exec_of_record_absent (exec_chunkType t)⟩⟩

/-- Settles O27: the checksum of a record that keeps its invariant is that of its type and payload. -/
theorem chunkCrcReturnsCrc : Obligations.ChunkCrcReturnsCrc :=
  ⟨decode_encode .chunkCrc, rfl, fun _ =>
    ⟨exec_of_record_present exec_chunkCrc, fun hok h => (hok h).crc, exec_of_record_absent exec_chunkCrc⟩⟩

/-! ### Byte strings in OBUF -/

/-- A command that ends by writing the byte string bs, of n bytes, to OBUF, with n as v in OBUF_LEN (10_state.md R27). -/
theorem exists_of_exec_eq_finishObuf {n : Nat} {bs : List Byte} {v : Dword} (hi : exec i s = finishObuf n bs s)
    (hn : n = bs.length) (hv : BitVec.ofNat 64 n = v) (hcap : bs.length ≤ s.cfg.obufCap) :
    ∃ m, exec i s = .next { s with obuf := m, obufLen := v, err := 0x00#8, busy := false } ∧
      (∀ a, a < bs.length → m.read? a = bs[a]?) ∧ (∀ a, bs.length ≤ a → m.read? a = s.obuf.read? a) := by
  subst hn hv
  have hexec : exec i s = finish (s.storeObuf bs.length bs) := hi.trans (if_pos hcap)
  rw [State.storeObuf, List.take_length] at hexec
  refine ⟨_, hexec, fun a ha => ?_, fun a ha => ?_⟩
  · rw [Memory.read_writeBytes, if_pos (by omega), Nat.sub_zero]
  · rw [Memory.read_writeBytes, if_neg (by omega)]

/-- The wire form of a record fits OBUF, and so does its payload (00_scope.md R7). -/
theorem Record.fieldsOk.wire_fits {cfg : Config.Params} {r : Record} (h : r.fieldsOk cfg.payloadCap) (hcfg : cfg.wf) :
    12 + r.payload.length ≤ cfg.obufCap := by
  obtain ⟨_, hcap, _⟩ := hcfg
  have hfits := h.fits
  omega

/-- Settles O26, from read after write. -/
theorem chunkPayloadWritesPayload : Obligations.ChunkPayloadWritesPayload := by
  refine ⟨decode_encode .chunkPayload, rfl, fun s =>
    ⟨fun hcfg hok h => ?_, exec_of_record_absent exec_chunkPayload⟩⟩
  have hwire := (hok h).wire_fits hcfg
  exact exists_of_exec_eq_finishObuf (exec_chunkPayload.trans (withRecord_present s _ h)) (hok h).len
    (BitVec.ofNat_toNat _ _) (by omega)

/-- A payload that is well-formed UTF-8 is written as CHUNK_PAYLOAD writes it (43_chunk_record.md R166). -/
theorem exec_chunkPayloadText_of_valid (hvalid : utf8Valid s.record.payload = true) (h : s.record.present = true) :
    exec .chunkPayloadText s = exec .chunkPayload s := by
  rw [exec_chunkPayloadText, exec_chunkPayload, withRecord_present _ _ h, withRecord_present _ _ h, if_pos hvalid]

/-- Settles O28: a valid payload is CHUNK_PAYLOAD's case, any other raises the error on the state as it stands. -/
theorem chunkPayloadTextChecksUtf8 : Obligations.ChunkPayloadTextChecksUtf8 := by
  refine ⟨decode_encode .chunkPayloadText, rfl, fun s => ⟨fun hcfg hok h hvalid => ?_, fun h hvalid => ?_,
    exec_of_record_absent exec_chunkPayloadText⟩⟩
  · obtain ⟨_, _, hpayload⟩ := chunkPayloadWritesPayload
    rw [exec_chunkPayloadText_of_valid hvalid h]
    exact (hpayload s).1 hcfg hok h
  · rw [exec_chunkPayloadText, withRecord_present _ _ h, if_neg (Bool.eq_false_iff.mp hvalid)]
    rfl

/-- Settles O29: the wire form has 12 + LEN bytes, and fits OBUF. -/
theorem chunkEncodeWritesWireForm : Obligations.ChunkEncodeWritesWireForm := by
  refine ⟨decode_encode .chunkEncode, rfl, fun s =>
    ⟨fun hcfg hok h => ?_, exec_of_record_absent exec_chunkEncode⟩⟩
  have hlen : (encodeRecord s.record).length = 12 + s.record.len.toNat := by rw [length_encodeRecord, (hok h).len]
  have hobufLen : BitVec.ofNat 64 (12 + s.record.len.toNat) = s.record.len.setWidth 64 + 12#64 := by
    rw [Nat.add_comm, BitVec.ofNat_add, BitVec.ofNat_toNat]
  have hfits : (encodeRecord s.record).length ≤ s.cfg.obufCap := by
    rw [length_encodeRecord]
    exact (hok h).wire_fits hcfg
  exact ⟨hlen, exists_of_exec_eq_finishObuf (exec_chunkEncode.trans (withRecord_present s _ h)) hlen.symm hobufLen hfits⟩

/-- The rendered text never exceeds OBUF (log 3). -/
theorem length_renderBytes_le (cap : Nat) (r : Record) : (renderBytes cap r).length ≤ cap := List.length_take_le _ _

/-- Settles O32: whatever the text is, it fits OBUF. -/
theorem chunkRenderWritesRenderedText : Obligations.ChunkRenderWritesRenderedText := by
  refine ⟨decode_encode .chunkRender, rfl, fun s => ⟨fun _ h => ?_, exec_of_record_absent exec_chunkRender⟩⟩
  have hfits := length_renderBytes_le s.cfg.obufCap s.record
  exact ⟨hfits, exists_of_exec_eq_finishObuf (exec_chunkRender.trans (withRecord_present s _ h)) rfl rfl hfits⟩

end Sys2Proof.Machine
end

section
/-! PROOFS. The ChunkRecord commands that build REC (43_chunk_record.md R160, R169, R170), and the round trips between the wire
form and the record through the commands (R172, R173). -/

namespace Sys2Proof.Machine

variable {s : State} {t : SlotIx} {p buf : List Byte} {r : Record} {d : Decoded}

/-! ### CHUNK_NEW (R160) -/

theorem exec_chunkNew (t : SlotIx) (s : State) : exec (.chunkNew t) s = execChunkNew t s := rfl

/-- CHUNK_NEW on a payload that the host has written: the read of it leaves no trace. -/
theorem exec_chunkNew_of_ibufIs (hp : (s.slot t).present = true) (h : s.IbufIs p) (hcap : p.length ≤ s.cfg.payloadCap) :
    exec (.chunkNew t) s = finish ((s.setRecord (newRecord (s.slot t).bytes p p.length)).setCrcAcc
      (crcRun crcInit (crcMessage (s.slot t).bytes p))) := by
  have hlen : s.ibufCount = p.length := h.len
  rw [exec_chunkNew, execChunkNew, withSlot_present _ _ _ hp, hlen, if_neg (by omega),
    readIbuf_written _ _ _ h.fits (h.written _ le_rfl), h.ibufBytes_eq]

theorem exec_chunkNew_of_capacity_lt (hp : (s.slot t).present = true) (hcap : s.cfg.payloadCap < s.ibufCount) :
    exec (.chunkNew t) s = raiseFault .capacity .capacity s := by
  rw [exec_chunkNew, execChunkNew, withSlot_present _ _ _ hp, if_pos hcap]

/-- Settles O23: P_PAYLOAD_CAP is below 2^32, so the 32-bit LEN holds the length of the payload. -/
theorem chunkNewBuildsRecord : Obligations.ChunkNewBuildsRecord := by
  refine ⟨decode_encode (.chunkNew .t0), decode_encode (.chunkNew .t1), fun t s =>
    ⟨fun p hcfg hp h hcap => ⟨_, BitVec.ofNat 32 p.length, ?_, exec_chunkNew_of_ibufIs hp h hcap⟩,
      exec_chunkNew_of_capacity_lt, exec_of_slot_absent (exec_chunkNew t s)⟩⟩
  obtain ⟨hbound, _, _⟩ := hcfg
  exact Nat.mod_eq_of_lt (by omega)

/-! ### CHUNK_DECODE (R169, R170) -/

theorem decodeRecord_of_tooShort (h : buf.length < 12) : decodeRecord buf = ⟨0, .error .tooShort⟩ := if_pos h

theorem decodeRecord_of_lengthMismatch (h : 12 ≤ buf.length) (hlen : buf.length ≠ 12 + (be32 (bytes4At buf 0)).toNat) :
    decodeRecord buf = ⟨4, .error .lengthMismatch⟩ :=
  (if_neg (by omega)).trans (if_pos hlen)

theorem decodeRecord_of_invalidTypeCode (hlen : buf.length = 12 + (be32 (bytes4At buf 0)).toNat)
    (htype : allLetters (bytes4At buf 4) = false) : decodeRecord buf = ⟨8, .error .invalidTypeCode⟩ :=
  (if_neg (by omega)).trans ((if_neg (not_not.mpr hlen)).trans (if_neg (Bool.eq_false_iff.mp htype)))

/-- The chain reads no byte beyond the buffer, the length of every buffer of 12 bytes or more, and the type where the length
fits (R169, steps 2 and 4). -/
theorem nread_decodeRecord_bounds (buf : List Byte) :
    (decodeRecord buf).nread ≤ buf.length ∧ (12 ≤ buf.length → 4 ≤ (decodeRecord buf).nread) ∧
      (buf.length = 12 + (be32 (bytes4At buf 0)).toNat → 8 ≤ (decodeRecord buf).nread) := by
  rcases decodeRecord_cases buf with
    ⟨_, hd⟩ | ⟨_, _, hd⟩ | ⟨_, _, hd⟩ | ⟨_, _, _, hd⟩ | ⟨_, _, _, hd⟩ <;> rw [hd] <;> simp only <;> omega

theorem nread_decodeRecord_le (buf : List Byte) : (decodeRecord buf).nread ≤ buf.length :=
  (nread_decodeRecord_bounds buf).1

/-- An error of the chain is never the code of success. -/
theorem errByte_ne_zero_of_decodeRecord {e : ErrCode} (h : (decodeRecord buf).result = .error e) : errByte e ≠ 0x00#8 := by
  rcases decodeRecord_cases buf with
    ⟨_, hd⟩ | ⟨_, _, hd⟩ | ⟨_, _, hd⟩ | ⟨_, _, _, hd⟩ | ⟨_, _, _, hd⟩ <;> rw [hd] at h <;> cases h <;> decide

/-- CHUNK_DECODE that fails, where the bytes that the chain's steps read are written. -/
theorem exec_chunkDecode_of_error {e : ErrCode} (hd : decodeRecord s.ibufBytes = d) (hr : d.result = .error e)
    (hn : d.nread ≤ s.cfg.ibufCap) (hw : s.ibufWritten d.nread = true) : exec .chunkDecode s = raise e s := by
  rw [exec, execChunkDecode, hd, readIbuf_written _ _ _ hn hw, hr]

/-- CHUNK_DECODE that succeeds, where the bytes that the chain's steps read are written. -/
theorem exec_chunkDecode_of_ok (hd : decodeRecord s.ibufBytes = d) (hr : d.result = .ok r)
    (hn : d.nread ≤ s.cfg.ibufCap) (hw : s.ibufWritten d.nread = true) :
    exec .chunkDecode s = finish ((s.setRecord r).setCrcAcc (crcRun crcInit (crcMessage r.type r.payload))) := by
  rw [exec, execChunkDecode, hd, readIbuf_written _ _ _ hn hw, hr]

/-- On a buffer that the host has written, the chain runs on the buffer itself and reads written bytes only. -/
theorem State.IbufIs.decodeRecord_written (h : s.IbufIs buf) :
    decodeRecord s.ibufBytes = decodeRecord buf ∧ (decodeRecord buf).nread ≤ s.cfg.ibufCap ∧
      s.ibufWritten (decodeRecord buf).nread = true := by
  have hn := nread_decodeRecord_le buf
  exact ⟨by rw [h.ibufBytes_eq], hn.trans h.fits, h.written _ hn⟩

/-- Where CHUNK_DECODE ends with ERR = 0x00, the chain has accepted the buffer, and REC holds what it gives back. -/
theorem exists_of_exec_chunkDecode_ok {s' : State} (h : s.IbufIs buf) (hexec : exec .chunkDecode s = .next s')
    (herr : s'.err = 0x00#8) : ∃ r, (decodeRecord buf).result = .ok r ∧ s'.record = r ∧ s'.cfg = s.cfg := by
  obtain ⟨hd, hn, hw⟩ := h.decodeRecord_written
  cases hr : (decodeRecord buf).result with
  | error e =>
    rw [exec_chunkDecode_of_error hd hr hn hw] at hexec
    cases hexec
    exact absurd herr (errByte_ne_zero_of_decodeRecord hr)
  | ok r =>
    rw [exec_chunkDecode_of_ok hd hr hn hw] at hexec
    cases hexec
    exact ⟨r, rfl, rfl, rfl⟩

/-! ### The round trips (R172, R173) -/

/-- CHUNK_ENCODE of a record that keeps its invariant leaves the wire form in OBUF[0:OBUF_LEN). -/
theorem exists_exec_chunkEncode_obufIs (hcfg : s.cfg.wf) (hp : s.record.present = true)
    (hok : s.record.fieldsOk s.cfg.payloadCap) :
    ∃ s', exec .chunkEncode s = .next s' ∧ s'.err = 0x00#8 ∧ s'.ObufIs (encodeRecord s.record) := by
  obtain ⟨_, _, hencode⟩ := chunkEncodeWritesWireForm
  obtain ⟨hlen, m, hexec, hread, _⟩ := (hencode s).1 hcfg (fun _ => hok) hp
  have hobufLen : (s.record.len.setWidth 64 + 12#64).toNat = 12 + s.record.len.toNat := by bv_omega
  exact ⟨_, hexec, rfl, hobufLen.trans hlen.symm, hread⟩

/-- Settles O34: the chain accepts a buffer only as the wire form of the record that it gives back. -/
theorem encodeAfterDecodeGivesTheBuffer : Obligations.EncodeAfterDecodeGivesTheBuffer := by
  intro s s1 buf hcfg h hexec herr
  obtain ⟨r, hr, rfl, hcfg1⟩ := exists_of_exec_chunkDecode_ok h hexec herr
  obtain ⟨hp, _⟩ := decodeRecord_ok hr
  have hn := (nread_decodeRecord_le buf).trans h.fits
  rw [← hcfg1] at hcfg hn
  obtain ⟨s2, hexec2, herr2, hobuf⟩ := exists_exec_chunkEncode_obufIs hcfg hp (fieldsOk_of_decodeRecord hr hn)
  exact ⟨s2, hexec2, herr2, encodeRecord_of_decodeRecord hr ▸ hobuf⟩

/-- Settles O35: the record that CHUNK_NEW builds keeps the record invariant, so the chain accepts its wire form. -/
theorem decodeAfterEncodeGivesTheRecord : Obligations.DecodeAfterEncodeGivesTheRecord := by
  intro s t d hcfg hp htype h hcap
  have hok := newRecord_fieldsOk (n := d.length) htype rfl hcap hcfg.1
  obtain ⟨s2, hexec2, herr2, hobuf⟩ := exists_exec_chunkEncode_obufIs
    (s := ((s.setRecord (newRecord (s.slot t).bytes d d.length)).setCrcAcc
      (crcRun crcInit (crcMessage (s.slot t).bytes d))).complete .ok) hcfg rfl hok
  refine ⟨_, s2, _, exec_chunkNew_of_ibufIs hp h hcap, rfl, hexec2, herr2, hobuf, fun s3 _ _ h3 => ?_⟩
  obtain ⟨hd, hn, hw⟩ := h3.decodeRecord_written
  have hdecoded := decodeRecord_encodeRecord (r := newRecord (s.slot t).bytes d d.length) rfl hok.len hok.type hok.crc
  exact ⟨_, exec_chunkDecode_of_ok hd hdecoded hn hw, rfl, rfl, rfl, rfl, rfl, rfl⟩

end Sys2Proof.Machine
end

section
/-! PROOFS. What the commands read of IBUF (10_state.md R37, 43_chunk_record.md R169, R170): CHUNK_DECODE the bytes that its
steps name and no other, and an unwritten byte among those that a command reads is logged once. -/

namespace Sys2Proof.Machine

variable {s : State} {a n : Nat} {b : Bytes4} {buf : List Byte}

/-! ### The bytes that CHUNK_DECODE's steps name -/

theorem ibufWritten_iff : s.ibufWritten n = true ↔ ∀ a < n, (s.ibuf.read? a).isSome = true := by
  simp only [State.ibufWritten, List.all_eq_true, List.mem_range]

theorem ibufWritten_eq_false (ha : a < n) (h : s.ibuf.read? a = none) : s.ibufWritten n = false := by
  rw [Bool.eq_false_iff, ne_eq, ibufWritten_iff]
  exact fun hw => by simpa [h] using hw a ha

theorem State.IbufHolds.isSome {x : Nat} (h : s.IbufHolds a b) (hx : a ≤ x) (hx' : x < a + 4) :
    (s.ibuf.read? x).isSome = true := by
  obtain ⟨h0, h1, h2, h3⟩ := h
  obtain rfl | rfl | rfl | rfl : x = a ∨ x = a + 1 ∨ x = a + 2 ∨ x = a + 3 := by omega
  · simp [h0]
  · simp [h1]
  · simp [h2]
  · simp [h3]

theorem ibufBytes_getD {v : Byte} (ha : a < s.ibufLen.toNat) (h : s.ibuf.read? a = some v) :
    s.ibufBytes.getD a 0#8 = v := by
  simp [State.ibufBytes, State.ibufCount, State.ibufByte, ha, h]

theorem bytes4At_ibufBytes (h : s.IbufHolds a b) (ha : a + 4 ≤ s.ibufLen.toNat) : bytes4At s.ibufBytes a = b := by
  obtain ⟨h0, h1, h2, h3⟩ := h
  rw [bytes4At, ibufBytes_getD (by omega) h0, ibufBytes_getD (by omega) h1, ibufBytes_getD (by omega) h2,
    ibufBytes_getD (by omega) h3]

/-- The length field fits the input. -/
theorem length_ibufBytes_eq (hb : s.IbufHolds 0 b) (hlen : s.ibufLen.toNat = 12 + (be32 b).toNat) :
    s.ibufBytes.length = 12 + (be32 (bytes4At s.ibufBytes 0)).toNat := by
  rw [State.length_ibufBytes, bytes4At_ibufBytes hb (by omega), hlen]

/-- Settles O31: the bytes named are the ones that the steps up to the failing check read. -/
theorem chunkDecodeReadsOnlyNamedBytes : Obligations.ChunkDecodeReadsOnlyNamedBytes := by
  intro s
  have hcap : 12 ≤ s.cfg.ibufCap := Nat.le_add_left _ _
  refine ⟨fun hlen => ?_, fun b h12 hb hlen => ?_, fun b t hb ht hlen htype => ?_⟩
  · have hd := decodeRecord_of_tooShort (buf := s.ibufBytes) (by rwa [State.length_ibufBytes])
    exact exec_chunkDecode_of_error hd rfl (Nat.zero_le _) rfl
  · have hlength := bytes4At_ibufBytes hb (by omega)
    have hd := decodeRecord_of_lengthMismatch (buf := s.ibufBytes) (by rwa [State.length_ibufBytes])
      (by rwa [State.length_ibufBytes, hlength])
    have hw : s.ibufWritten 4 = true := ibufWritten_iff.mpr fun a ha => hb.isSome (by omega) ha
    exact exec_chunkDecode_of_error hd rfl (by simp only; omega) hw
  · have hd := decodeRecord_of_invalidTypeCode (length_ibufBytes_eq hb hlen) (by rwa [bytes4At_ibufBytes ht (by omega)])
    have hw : s.ibufWritten 8 = true := ibufWritten_iff.mpr fun a ha => by
      rcases Nat.lt_or_ge a 4 with h | h
      · exact hb.isSome (by omega) h
      · exact ht.isSome h ha
    exact exec_chunkDecode_of_error hd rfl (by simp only; omega) hw

/-! ### Unwritten bytes -/

/-- The answer r goes on, and adds nothing to the fault log of s. -/
def AddsNoEntry (s : State) (r : Result) : Prop := ∃ s', r = .next s' ∧ s'.faultLog = s.faultLog

/-- The answer r goes on, and adds one entry for an unwritten byte to the fault log of s (log 8). -/
def AddsUnwrittenEntry (s : State) (r : Result) : Prop :=
  ∃ s', r = .next s' ∧ s'.faultLog = s.faultLog ++ [(s.cmd, .unwrittenIbuf)]

theorem readIbuf_unwritten {k : State → Result} (hn : n ≤ s.cfg.ibufCap) (hw : s.ibufWritten n = false)
    (hk : ∀ b, AddsNoEntry b (k b)) : AddsUnwrittenEntry s (readIbuf n s k) := by
  obtain ⟨s', hs', hlog⟩ := hk (s.logFault .unwrittenIbuf)
  exact ⟨s', by rw [readIbuf, if_pos hn, s.noteRead_unwritten n hw, hs'], hlog⟩

theorem exec_tcFromText_unwritten (t : SlotIx) (hn : s.ibufCount ≤ s.cfg.ibufCap)
    (hw : s.ibufWritten s.ibufCount = false) : AddsUnwrittenEntry s (exec (.tcFromText t) s) := by
  rw [exec, execTcFromText]
  refine readIbuf_unwritten hn hw fun b => ?_
  dsimp only
  split_ifs <;> exact ⟨_, rfl, by simp⟩

theorem exec_crcCompute_unwritten (hn : s.ibufCount ≤ s.cfg.ibufCap) (hw : s.ibufWritten s.ibufCount = false) :
    AddsUnwrittenEntry s (exec .crcCompute s) := by
  rw [exec, execCrcCompute]
  exact readIbuf_unwritten hn hw fun b => ⟨_, rfl, rfl⟩

theorem exec_chunkNew_unwritten {t : SlotIx} (hp : (s.slot t).present = true) (hcap : s.ibufCount ≤ s.cfg.payloadCap)
    (hn : s.ibufCount ≤ s.cfg.ibufCap) (hw : s.ibufWritten s.ibufCount = false) :
    AddsUnwrittenEntry s (exec (.chunkNew t) s) := by
  rw [exec_chunkNew, execChunkNew, withSlot_present _ _ _ hp, if_neg (by omega)]
  exact readIbuf_unwritten hn hw fun b => ⟨_, rfl, rfl⟩

/-- An unwritten byte below the ones that the chain's steps read. -/
theorem exec_chunkDecode_unwritten (hn : s.ibufLen.toNat ≤ s.cfg.ibufCap) (ha : a < (decodeRecord s.ibufBytes).nread)
    (h : s.ibuf.read? a = none) : AddsUnwrittenEntry s (exec .chunkDecode s) := by
  have hread : (decodeRecord s.ibufBytes).nread ≤ s.ibufLen.toNat :=
    (nread_decodeRecord_le _).trans_eq s.length_ibufBytes
  rw [exec, execChunkDecode]
  refine readIbuf_unwritten (hread.trans hn) (ibufWritten_eq_false ha h) fun b => ?_
  cases (decodeRecord s.ibufBytes).result with
  | error e => exact ⟨_, rfl, rfl⟩
  | ok r => exact ⟨_, rfl, rfl⟩

/-- The whole buffer is read where the type is four letters (R169, steps 5 and 6). -/
theorem nread_decodeRecord_of_letters (h : buf.length = 12 + (be32 (bytes4At buf 0)).toNat)
    (htype : allLetters (bytes4At buf 4) = true) : (decodeRecord buf).nread = buf.length := by
  rcases decodeRecord_cases buf with
    ⟨hlt, _⟩ | ⟨_, hne, _⟩ | ⟨_, hfalse, _⟩ | ⟨_, _, _, hd⟩ | ⟨_, _, _, hd⟩
  · omega
  · exact absurd h hne
  · simp [htype] at hfalse
  · rw [hd]
  · rw [hd]

/-- Settles O40: an unwritten byte below the number of bytes that the command reads is logged, once. -/
theorem unwrittenReadsAreLogged : Obligations.UnwrittenReadsAreLogged := by
  rintro s hcap ⟨a, ha, hnone⟩
  have hw : s.ibufWritten s.ibufCount = false := ibufWritten_eq_false ha hnone
  obtain ⟨_, hlengthRead, htypeRead⟩ := nread_decodeRecord_bounds s.ibufBytes
  refine ⟨fun t => exec_tcFromText_unwritten t hcap hw, exec_crcCompute_unwritten hcap hw,
    fun t hp hpayload => exec_chunkNew_unwritten hp hpayload hcap hw, ?_, ?_, ?_⟩
  · rintro h12 ⟨a, ha, hnone⟩
    have hread := hlengthRead (by rwa [State.length_ibufBytes])
    exact exec_chunkDecode_unwritten hcap (by omega) hnone
  · rintro b hb hlen ⟨a, _, ha, hnone⟩
    have hread := htypeRead (length_ibufBytes_eq hb hlen)
    exact exec_chunkDecode_unwritten hcap (by omega) hnone
  · rintro b t hb ht hlen htype ⟨a, _, ha, hnone⟩
    have hread := nread_decodeRecord_of_letters (length_ibufBytes_eq hb hlen) (by rwa [bytes4At_ibufBytes ht (by omega)])
    rw [State.length_ibufBytes] at hread
    exact exec_chunkDecode_unwritten hcap (by omega) hnone

end Sys2Proof.Machine
end

section
/-! PROOFS. How errors are reported (60_exceptions.md R210, R215): CHUNK_DECODE reports the first check of its chain that fails,
and a command that reports an error has changed STATUS and bookkeeping alone. -/

namespace Sys2Proof.Machine

/-! ### The ordered checks of CHUNK_DECODE (R215) -/

section
variable {s : State} {buf : List Byte}

theorem decodeRecord_of_crcMismatch (hlen : buf.length = 12 + (be32 (bytes4At buf 0)).toNat)
    (htype : allLetters (bytes4At buf 4) = true)
    (hcrc : crc32 (crcMessage (bytes4At buf 4) (slice buf 8 (be32 (bytes4At buf 0)).toNat)) ≠
      be32 (bytes4At buf (8 + (be32 (bytes4At buf 0)).toNat))) :
    decodeRecord buf = ⟨buf.length, .error .crcMismatch⟩ :=
  (if_neg (by omega)).trans ((if_neg (not_not.mpr hlen)).trans ((if_pos htype).trans (if_neg hcrc)))

theorem decodeRecord_of_valid (hlen : buf.length = 12 + (be32 (bytes4At buf 0)).toNat)
    (htype : allLetters (bytes4At buf 4) = true)
    (hcrc : crc32 (crcMessage (bytes4At buf 4) (slice buf 8 (be32 (bytes4At buf 0)).toNat)) =
      be32 (bytes4At buf (8 + (be32 (bytes4At buf 0)).toNat))) :
    decodeRecord buf = ⟨buf.length, .ok ⟨true, be32 (bytes4At buf 0), bytes4At buf 4,
      slice buf 8 (be32 (bytes4At buf 0)).toNat, be32 (bytes4At buf (8 + (be32 (bytes4At buf 0)).toNat))⟩⟩ :=
  (if_neg (by omega)).trans ((if_neg (not_not.mpr hlen)).trans ((if_pos htype).trans (if_pos hcrc)))

/-- On a written buffer that the chain rejects, CHUNK_DECODE raises the chain's error. -/
theorem State.IbufIs.exec_chunkDecode_rejected {n : Nat} {e : ErrCode} (h : s.IbufIs buf)
    (hd : decodeRecord buf = ⟨n, .error e⟩) : exec .chunkDecode s = raise e s := by
  obtain ⟨hbuf, hn, hw⟩ := h.decodeRecord_written
  exact exec_chunkDecode_of_error hbuf (by rw [hd]) hn hw

/-- On a written buffer that the chain accepts, CHUNK_DECODE loads REC, and leaves some value in CRC_ACC. -/
theorem State.IbufIs.exists_exec_chunkDecode_accepted {n : Nat} {r : Record} (h : s.IbufIs buf)
    (hd : decodeRecord buf = ⟨n, .ok r⟩) : ∃ c, exec .chunkDecode s = finish ((s.setRecord r).setCrcAcc c) := by
  obtain ⟨hbuf, hn, hw⟩ := h.decodeRecord_written
  exact ⟨_, exec_chunkDecode_of_ok hbuf (by rw [hd]) hn hw⟩

end

/-- Settles O30: each clause is one outcome of the decode chain, which CHUNK_DECODE raises or loads. -/
theorem chunkDecodeRunsOrderedChecks : Obligations.ChunkDecodeRunsOrderedChecks :=
  ⟨decode_encode .chunkDecode, rfl, fun _ _ h =>
    ⟨fun hshort => h.exec_chunkDecode_rejected (decodeRecord_of_tooShort hshort),
      fun hlong hlen => h.exec_chunkDecode_rejected (decodeRecord_of_lengthMismatch hlong hlen),
      fun _ hlen htype => h.exec_chunkDecode_rejected (decodeRecord_of_invalidTypeCode hlen htype),
      fun _ hlen htype hcrc => h.exec_chunkDecode_rejected (decodeRecord_of_crcMismatch hlen htype hcrc),
      fun _ hlen htype hcrc => h.exists_exec_chunkDecode_accepted (decodeRecord_of_valid hlen htype hcrc)⟩⟩

/-! ### What a reported error changes (R210) -/

/-- Every effect of a command but `ended` completes with ERR = 0x00, so a command that reports another code ended with the code
and bookkeeping alone. -/
theorem ExecEffect.ended_of_err_ne_zero {i : Instr} {s s' : State} (h : ExecEffect i s s') (herr : s'.err ≠ 0x00#8) :
    ∃ b e, Booked s b ∧ s' = b.complete e := by
  cases h with
  | ended b e hb h => exact ⟨b, e, hb, h⟩
  | slotBuilt _ _ _ _ _ _ h | typeCopied _ _ _ h | scalar _ _ h | computed _ _ _ _ _ h | recordBuilt _ _ _ _ _ _ _ h
  | recordDecoded _ _ _ _ _ _ _ h | output _ _ _ _ h =>
    exact absurd (by rw [h]; rfl) herr

/-- Settles O39: the state that an error is raised on differs from s in bookkeeping only, and `complete` writes STATUS alone. -/
theorem errorsChangeOnlyStatus : Obligations.ErrorsChangeOnlyStatus := by
  intro i s s' h herr
  obtain ⟨b, e, ⟨l, m, rfl⟩, rfl⟩ := (exec_effect i s s' h).ended_of_err_ne_zero herr
  rfl

end Sys2Proof.Machine
end

section
/-! PROOFS. Reset (70_reset_and_hazards.md R240 to R242): what it leaves, and what two commands give right after it. -/

namespace Sys2Proof.Machine

/-- Settles O44: the action puts the reset state in place, whatever BUSY was, and keeps the parameters and the host's side. -/
theorem resetLeavesResetValues : Obligations.ResetLeavesResetValues := by
  intro s rest hq
  have hstep : step s = hostReset { s with hostQ := rest } := step_of_hostQ hq
  exact ⟨_, hstep, rfl, rfl, rfl, rfl, rfl, rfl, rfl, rfl, rfl, rfl, Memory.read_empty, rfl, rfl, rfl, rfl⟩

/-- IBUF[0:IBUF_LEN) is the empty string right after reset: IBUF_LEN is 0 (10_state.md R40). -/
theorem resetWith_ibufIs (p : Config.Params) : (State.resetWith p).IbufIs [] where
  len := rfl
  bytes := fun _ h => absurd h (Nat.not_lt_zero _)
  fits := Nat.zero_le _

/-- The start of a command leaves its input as it is. -/
theorem State.IbufIs.start {s : State} {bs : List Byte} (h : s.IbufIs bs) (w : Word) (n : Nat) :
    { s with cmd := w, busy := true, draws := n }.IbufIs bs :=
  ⟨h.len, h.bytes, h.fits⟩

/-- Settles O45: both commands run on the empty input, whose checksum is 0 and which is too short to decode. -/
theorem commandsRightAfterReset : Obligations.CommandsRightAfterReset := by
  intro p
  have hinput := (resetWith_ibufIs p).start
  obtain ⟨_, hfetch⟩ := stepRunsDecodedCommand
  have hcompute := exec_crcCompute_of_ibufIs (hinput (encode .crcCompute) 1)
  have hdecode := (hinput (encode .chunkDecode) 1).exec_chunkDecode_rejected (decodeRecord_of_tooShort (by decide))
  exact ⟨⟨_, (hfetch _ _ _ (decode_encode .crcCompute)).trans hcompute, rfl, rfl⟩,
    ⟨_, (hfetch _ _ _ (decode_encode .chunkDecode)).trans hdecode, rfl, rfl⟩⟩

end Sys2Proof.Machine
end

section
/-! PROOFS. The hazards while BUSY = 1 (70_reset_and_hazards.md R243, R244): the block refuses every write that would change
it, and a read of a result is marked. -/

namespace Sys2Proof.Machine

variable {s : State}

theorem unlessBusy_of_busy (hb : s.busy = true) (r : Result) :
    unlessBusy s r = .refused (.writeWhileBusy s.markRefused) := if_pos hb

theorem readResult_of_busy (hb : s.busy = true) (v busyValue : Reply) :
    readResult s v busyValue = .next (s.reply busyValue).markRefused.drawOne := if_pos hb

/-! ### Writes (R243) -/

theorem writeIbufLen_of_busy {v : Dword} (hb : s.busy = true) (hv : v.toNat ≤ s.cfg.ibufCap) :
    writeIbufLen v s = .refused (.writeWhileBusy s.markRefused) :=
  (if_neg (not_lt.mpr hv)).trans (unlessBusy_of_busy hb _)

theorem hostWriteIbuf_of_busy {a : Nat} (b : Byte) (hb : s.busy = true) (ha : a < s.cfg.ibufCap) :
    hostWriteIbuf a b s = .refused (.writeWhileBusy s.markRefused) :=
  (if_neg (not_le.mpr ha)).trans (unlessBusy_of_busy hb _)

/-- Settles O58: the four writes are within their bounds, so BUSY decides. -/
theorem writesWhileBusyAreRefused : Obligations.WritesWhileBusyAreRefused := by
  intro s op rest hb hq hop
  have hbusy : { s with hostQ := rest }.busy = true := hb
  rw [step_of_hostQ hq]
  obtain ⟨w, rfl⟩ | ⟨v, rfl⟩ | ⟨v, hv, rfl⟩ | ⟨a, b, ha, rfl⟩ := hop
  · exact unlessBusy_of_busy hbusy _
  · exact unlessBusy_of_busy hbusy _
  · exact writeIbufLen_of_busy hbusy hv
  · exact hostWriteIbuf_of_busy b hbusy ha

/-! ### Reads (R243, R244) -/

theorem hostReadObuf_of_busy {a : Nat} (hb : s.busy = true) (ha : a < s.cfg.obufCap) :
    hostReadObuf a s = .next (s.reply (.byte (Config.busyByte s.draws a))).markRefused.drawOne :=
  (if_neg (not_le.mpr ha)).trans (if_pos hb)

/-- Settles O59: the reads of CMD, STATUS, ARG and IBUF_LEN do not look at BUSY, and those of result state do. -/
theorem readsWhileBusy : Obligations.ReadsWhileBusy := by
  intro s rest hb
  have hbusy : { s with hostQ := rest }.busy = true := hb
  obtain ⟨_, hbit, _⟩ := statusWord_fields s
  refine ⟨step_of_hostQ, fun hq => ⟨statusWord s, step_of_hostQ hq, by rw [hbit, hb]; rfl⟩, step_of_hostQ, step_of_hostQ, ?_⟩
  rintro (hq | hq | ⟨a, ha, hq⟩) <;> rw [step_of_hostQ hq]
  · exact ⟨_, readResult_of_busy hbusy _ _⟩
  · exact ⟨_, readResult_of_busy hbusy _ _⟩
  · exact ⟨_, hostReadObuf_of_busy hbusy ha⟩

end Sys2Proof.Machine
end

section
/-! PROOFS. The block never stops on a lawful action (70_reset_and_hazards.md R241, R245): from a state that keeps the
invariant every command, every lawful host action and every step with no action answers a next state. -/

namespace Sys2Proof.Machine

variable {s : State} {t : SlotIx} {n : Nat}

/-- The answer is a next state: neither a fault nor a refusal. -/
def GoesOn (r : Result) : Prop := ∃ s', r = .next s'

/-! ### The operands and the end of a command -/

theorem goesOn_next (s : State) : GoesOn (.next s) := ⟨s, rfl⟩

theorem goesOn_ite {p : Prop} {_ : Decidable p} {r₁ r₂ : Result} (h₁ : GoesOn r₁) (h₂ : GoesOn r₂) :
    GoesOn (if p then r₁ else r₂) := by
  split
  · exact h₁
  · exact h₂

theorem goesOn_withSlot {k : Bytes4 → Result} (hk : ∀ b, GoesOn (k b)) : GoesOn (withSlot t s k) :=
  goesOn_ite (hk _) (goesOn_next _)

/-- A record that is present keeps the record invariant (10_state.md R31). -/
theorem State.Held.goesOn_withRecord {k : Record → Result} (h : s.Held)
    (hk : ∀ r, r.fieldsOk s.cfg.payloadCap → GoesOn (k r)) : GoesOn (withRecord s k) := by
  rcases withRecord_cases s k with ⟨hp, hr⟩ | ⟨_, hr⟩ <;> rw [hr]
  · exact hk _ (h.record hp)
  · exact goesOn_next _

theorem goesOn_readIbuf {k : State → Result} (hn : n ≤ s.cfg.ibufCap) (hk : ∀ b, GoesOn (k b)) :
    GoesOn (readIbuf n s k) := by
  rw [readIbuf, if_pos hn]
  exact hk _

theorem goesOn_finishObuf (bs : List Byte) (hn : n ≤ s.cfg.obufCap) : GoesOn (finishObuf n bs s) :=
  ⟨_, if_pos hn⟩

/-! ### Commands -/

theorem goesOn_execTcFromText (hn : s.ibufCount ≤ s.cfg.ibufCap) : GoesOn (execTcFromText t s) :=
  goesOn_readIbuf hn fun _ =>
    goesOn_ite (goesOn_ite (goesOn_next _) (goesOn_ite (goesOn_next _) (goesOn_ite (goesOn_next _) (goesOn_next _))))
      (goesOn_next _)

theorem goesOn_execChunkNew (hn : s.ibufCount ≤ s.cfg.ibufCap) : GoesOn (execChunkNew t s) :=
  goesOn_withSlot fun _ => goesOn_ite (goesOn_next _) (goesOn_readIbuf hn fun _ => goesOn_next _)

/-- The chain reads no byte beyond IBUF_LEN. -/
theorem goesOn_execChunkDecode (hn : s.ibufCount ≤ s.cfg.ibufCap) : GoesOn (execChunkDecode s) := by
  have hread : (decodeRecord s.ibufBytes).nread ≤ s.ibufCount :=
    (nread_decodeRecord_le _).trans_eq s.length_ibufBytes
  unfold execChunkDecode
  refine goesOn_readIbuf (hread.trans hn) fun b => ?_
  cases (decodeRecord s.ibufBytes).result with
  | error e => exact goesOn_next _
  | ok r => exact goesOn_next _

/-- The wire form of a record fits OBUF, its length counted from LEN. -/
theorem Record.fieldsOk.len_fits {cfg : Config.Params} {r : Record} (h : r.fieldsOk cfg.payloadCap) (hcfg : cfg.wf) :
    12 + r.len.toNat ≤ cfg.obufCap := by
  rw [h.len]
  exact h.wire_fits hcfg

/-- A command reads no byte of IBUF beyond IBUF_LEN and writes none of OBUF beyond its capacity, so it ends with a code. -/
theorem State.Held.exec_goesOn (h : s.Held) (i : Instr) : GoesOn (exec i s) := by
  have hin : s.ibufCount ≤ s.cfg.ibufCap := h.ibufLen
  cases i with
  | tcFromBytes t => exact goesOn_ite (goesOn_next _) (goesOn_next _)
  | tcFromText t => exact goesOn_execTcFromText hin
  | tcBytes t | tcIsCritical t | tcIsPublic t | tcIsReservedBitValid t | tcIsSafeToCopy t | tcIsValid t =>
    exact goesOn_withSlot fun _ => goesOn_next _
  | tcRender t =>
    obtain ⟨_, hcap, _⟩ := h.cfg
    exact goesOn_withSlot fun b => goesOn_finishObuf _ (by omega)
  | tcEqual => exact goesOn_withSlot fun _ => goesOn_withSlot fun _ => goesOn_next _
  | chunkNew t => exact goesOn_execChunkNew hin
  | chunkLength | chunkType t | chunkCrc => exact h.goesOn_withRecord fun _ _ => goesOn_next _
  | chunkPayload => exact h.goesOn_withRecord fun _ hr => goesOn_finishObuf _ (le_of_add_le_right (hr.len_fits h.cfg))
  | chunkPayloadText =>
    exact h.goesOn_withRecord fun _ hr =>
      goesOn_ite (goesOn_finishObuf _ (le_of_add_le_right (hr.len_fits h.cfg))) (goesOn_next _)
  | chunkEncode => exact h.goesOn_withRecord fun _ hr => goesOn_finishObuf _ (hr.len_fits h.cfg)
  | chunkDecode => exact goesOn_execChunkDecode hin
  | chunkRender => exact h.goesOn_withRecord fun r _ => goesOn_finishObuf _ (length_renderBytes_le _ r)
  | crcCompute => exact goesOn_readIbuf hin fun _ => goesOn_next _

theorem State.Held.runCommand_goesOn (h : s.Held) : GoesOn (runCommand s) := by
  rcases runCommand_cases s with ⟨_, _, hr⟩ | ⟨i, _, hr⟩ <;> rw [hr]
  · exact goesOn_next _
  · exact h.exec_goesOn i

/-! ### Host actions and the engine's turn -/

/-- The lawful actions that are not quiet are the write of CMD and the reset. -/
theorem eq_of_lawful_of_not_quiet {op : HostOp} (hl : lawful s op) (hq : ¬ quiet op) :
    (∃ w, op = .writeReg 0x00 (.w32 w)) ∨ op = .reset := by
  cases op with
  | writeReg off v =>
    obtain rfl : off = 0x00 := not_not.mp hq
    rcases data_of_mem_regAccesses hl.1 with ⟨w, rfl, _⟩ | ⟨_, _, h | h⟩
    · exact .inl ⟨w, rfl⟩
    · cases h
    · cases h
  | readReg _ _ | writeIbuf _ _ | readObuf _ => exact absurd trivial hq
  | reset => exact .inr rfl

theorem State.Inv.hostAct_goesOn {op : HostOp} (h : s.Inv) (hl : lawful s op) : GoesOn (hostAct op s) := by
  by_cases hq : quiet op
  · obtain ⟨s', hact, _⟩ := hostAct_quiet h.idle hq hl
    exact ⟨s', hact⟩
  · obtain ⟨w, rfl⟩ | rfl := eq_of_lawful_of_not_quiet hl hq
    · obtain ⟨s', hrun⟩ := (h.held.of_same (s' := s.latch w) rfl).runCommand_goesOn
      exact ⟨s', (unlessBusy_of_idle h.idle _).trans hrun⟩
    · exact goesOn_next _

/-- With no host action at hand the engine has its turn (log 6). -/
theorem step_of_hostQ_nil (hq : s.hostQ = []) : step s = engineAct s := by
  unfold step stepState
  rw [hq]

/-- An idle block waits (R241). -/
theorem step_of_idle (hq : s.hostQ = []) (hb : s.busy = false) : step s = .next s :=
  (step_of_hostQ_nil hq).trans (if_neg (Bool.eq_false_iff.mp hb))

/-- Settles O49: with no action the block waits, and a lawful action that is not quiet runs a command or resets. -/
theorem lawfulStepsGoOn : Obligations.LawfulStepsGoOn := by
  intro s h hop
  cases hq : s.hostQ with
  | nil => exact ⟨s, step_of_idle hq h.idle⟩
  | cons op rest =>
    have hpopped : { s with hostQ := rest }.Inv := (h.held.of_same rfl).inv h.idle h.err
    rw [step_of_hostQ hq]
    exact hpopped.hostAct_goesOn ((lawful_congr rfl).mpr (hop op rest hq))

/-- Settles O53: the running command goes on, and its end keeps the invariant, BUSY = 0 in it. -/
theorem engineWaitsOrCompletes : Obligations.EngineWaitsOrCompletes := by
  refine ⟨fun s => step_of_idle, fun s hq hb h => ?_⟩
  have hheld : s.Held := h.held.of_same rfl
  obtain ⟨s', hrun⟩ := hheld.runCommand_goesOn
  exact ⟨s', ((step_of_hostQ_nil hq).trans (if_pos hb)).trans hrun, (runCommand_keeps_inv hheld hrun).idle⟩

end Sys2Proof.Machine
end
